-- ==== Sys2Proof/Word.lean ====
section
/-! DEFINITION. The widths of AHOY-CRCFRM's data: bytes of frames, 16-bit CRCs, 32-bit registers
(00_scope.md R10, 10_state.md R24). -/

namespace Sys2Proof

/-- A byte of a frame or of a buffer. -/
abbrev Byte := BitVec 8

/-- A CRC-16 value. -/
abbrev Half := BitVec 16

/-- A register of the map, and a command word. -/
abbrev Word := BitVec 32

end Sys2Proof
end

