-- ==== Sys2Proof/Config.lean ====
section
/-! DEFINITION. The implementation parameters of 00_scope.md R7 to R9 and the free values of
10_state.md R52. -/

namespace Sys2Proof

/-- The parameters the model takes as an argument, fixed for the life of a block (R8, R9, R21). -/
structure Config where
  /-- QUEUE_DEPTH, 1 to 255 (R8; open). -/
  queueDepth : Nat
  /-- CRC8_POLY and CRC8_INIT (R9, R93). -/
  crc8Poly : Byte
  crc8Init : Byte
  /-- CRC16_POLY_R and CRC16_INIT (R9, R94). -/
  crc16PolyR : Half
  crc16Init : Half
  deriving DecidableEq, Repr

/-- MAX_LEN: this hardware takes 32 (R7; log 6). -/
abbrev Config.maxLen : Nat := 32

/-- The CRC values are R9's (UNVERIFIED: the spec marks them general knowledge; log 5, unsafe).
DESIGN CHOICE (log 4, unsafe for a claim that uses the number): QUEUE_DEPTH is open, and State.reset
takes the 4 of 95_test_vectors.md. -/
def Config.thisHardware : Config where
  queueDepth := 4
  crc8Poly := 0x01
  crc8Init := 0x00
  crc16PolyR := 0xA001
  crc16Init := 0xFFFF

/-- R8's range of QUEUE_DEPTH. -/
def Config.wf (c : Config) : Bool := decide (1 ≤ c.queueDepth) && decide (c.queueDepth ≤ 255)

/-- The unspecified byte `i` of TXBUF after reset number `k`: a draw (R52, I3; log 3, safe). -/
opaque Config.resetTxByte : Nat → Nat → Byte

/-- The unspecified byte `i` of RXBUF after reset number `k`: a draw (R52, I3; log 3, safe). -/
opaque Config.resetRxByte : Nat → Nat → Byte

/-- BASE, the register map's address on the host's bus: open, and no rule depends on it
(R53, I8; log 13, safe). -/
opaque Config.base : Nat

end Sys2Proof
end

