-- ==== Sys2Proof/Syntax.lean ====
section
/-! DEFINITION. The ten commands of 30_encoding.md R76 in the operand form of the assembler syntax
R88: buffers by name, numbers as numbers. -/

namespace Sys2Proof

/-- The buffer a CRC command reads (R77). SEL = 3 is reserved and names no buffer (R85). -/
inductive BufSel where
  | tx
  | rx
  | qh
  deriving DecidableEq, Repr

/-- One constructor per row of spec/opcode_table.json. -/
inductive Instr where
  /-- NOP (43_control.md R125). -/
  | nop
  /-- HDR mid, idx (41_framing.md R102). -/
  | hdr (mid idx : Nat)
  /-- FIN len [, crc16] (41_framing.md R104). -/
  | fin (includeCrc16 : Bool) (len : Nat)
  /-- CRC8 buf, start, count (40_crc.md R96). -/
  | crc8 (buf : BufSel) (start count : Nat)
  /-- CRC16 buf, start, count (40_crc.md R97). -/
  | crc16 (buf : BufSel) (start count : Nat)
  /-- ARM (42_reassembly.md R117). -/
  | arm
  /-- DISARM (42_reassembly.md R118). -/
  | disarm
  /-- PUSH (42_reassembly.md R108). -/
  | push
  /-- POP (42_reassembly.md R119). -/
  | pop
  /-- FLUSH (42_reassembly.md R120). -/
  | flush
  deriving DecidableEq, Repr

end Sys2Proof
end

