-- ==== Sys2Proof/WellFormed.lean ====
section
/-! DEFINITION. The assembler's check of 30_encoding.md R88: an operand fits its 8-bit field. -/

namespace Sys2Proof

/-- mid, idx, len, start or count is at most 255 (R78, R88). -/
def fitsField (n : Nat) : Bool := decide (n < 256)

/-- What an assembler accepts (R88). -/
def Instr.wellFormed : Instr → Bool
  | .nop => true
  | .hdr mid idx => fitsField mid && fitsField idx
  | .fin _ len => fitsField len
  | .crc8 _ start count => fitsField start && fitsField count
  | .crc16 _ start count => fitsField start && fitsField count
  | .arm => true
  | .disarm => true
  | .push => true
  | .pop => true
  | .flush => true

end Sys2Proof
end

