-- ==== Sys2Proof/Decode.lean ====
section
/-! DEFINITION. Command words: fields, decoding in the order of 30_encoding.md R83, encoding by R75
and R88, and the decoder as spec/opcode_table.json numbers its bits. -/

namespace Sys2Proof

/-- `v[hi:lo]` read as an unsigned number (00_scope.md R11). -/
def bits (v : Word) (hi lo : Nat) : Nat := v.toNat / 2 ^ lo % 2 ^ (hi - lo + 1)

/-- The errors a command can raise (60_exceptions.md R126). -/
inductive CmdError where
  | illegalOp
  | reserved
  | range
  | finOverflow
  | queueEmpty
  deriving DecidableEq, Repr

/-- The cause code STATUS.ERRCODE shows (R126). -/
def CmdError.code : CmdError → BitVec 4
  | .illegalOp => 1
  | .reserved => 2
  | .range => 3
  | .finOverflow => 4
  | .queueEmpty => 5

/-- The operations OP names (R76). -/
inductive Op where
  | nop | hdr | fin | crc8 | crc16 | arm | disarm | push | pop | flush
  deriving DecidableEq, Repr

/-- OP 0x0 to 0x9; 0xA to 0xF name no operation (R76, R84). -/
def Op.ofCode : Nat → Option Op
  | 0 => some .nop
  | 1 => some .hdr
  | 2 => some .fin
  | 3 => some .crc8
  | 4 => some .crc16
  | 5 => some .arm
  | 6 => some .disarm
  | 7 => some .push
  | 8 => some .pop
  | 9 => some .flush
  | _ => none

/-- SEL 0 to 2; 3 is reserved (R77, R85). -/
def BufSel.ofCode : Nat → Option BufSel
  | 0 => some .tx
  | 1 => some .rx
  | 2 => some .qh
  | _ => none

/-- A command without operands: every bit above OP is 0 (R83, third test). -/
def decodeBare (v : Word) (i : Instr) : Except CmdError Instr :=
  if bits v 31 4 ≠ 0 then .error .reserved else .ok i

/-- HDR: SEL and F are 0 (R83, fourth test). -/
def decodeHdr (v : Word) : Except CmdError Instr :=
  if bits v 5 4 ≠ 0 ∨ bits v 6 6 ≠ 0 then .error .reserved
  else .ok (.hdr (bits v 15 8) (bits v 23 16))

/-- FIN: SEL and B are 0 (R83, fifth test). -/
def decodeFin (v : Word) : Except CmdError Instr :=
  if bits v 5 4 ≠ 0 ∨ bits v 23 16 ≠ 0 then .error .reserved
  else .ok (.fin (decide (bits v 6 6 = 1)) (bits v 15 8))

/-- CRC8 and CRC16: F is 0 and SEL is not 3 (R83, sixth test). -/
def decodeCrc (v : Word) (mk : BufSel → Nat → Nat → Instr) : Except CmdError Instr :=
  match BufSel.ofCode (bits v 5 4) with
  | none => .error .reserved
  | some b => if bits v 6 6 ≠ 0 then .error .reserved else .ok (mk b (bits v 15 8) (bits v 23 16))

/-- Decoding of a CMD write, its tests in R83's order. -/
def decode (v : Word) : Except CmdError Instr :=
  match Op.ofCode (bits v 3 0) with
  | none => .error .illegalOp
  | some op =>
    if bits v 7 7 ≠ 0 ∨ bits v 31 24 ≠ 0 then .error .reserved
    else
      match op with
      | .nop => decodeBare v .nop
      | .hdr => decodeHdr v
      | .fin => decodeFin v
      | .crc8 => decodeCrc v .crc8
      | .crc16 => decodeCrc v .crc16
      | .arm => decodeBare v .arm
      | .disarm => decodeBare v .disarm
      | .push => decodeBare v .push
      | .pop => decodeBare v .pop
      | .flush => decodeBare v .flush

/-- `enc(op, sel, f, a, b)` (R75). -/
def enc (op sel f a b : Nat) : Word :=
  BitVec.ofNat 32 (op + 16 * sel + 64 * f + 256 * a + 65536 * b)

/-- SEL of a buffer (R77). -/
def BufSel.code : BufSel → Nat
  | .tx => 0
  | .rx => 1
  | .qh => 2

/-- The command word of an instruction (R88). -/
def encode : Instr → Word
  | .nop => enc 0x0 0 0 0 0
  | .hdr mid idx => enc 0x1 0 0 mid idx
  | .fin includeCrc16 len => enc 0x2 0 includeCrc16.toNat len 0
  | .crc8 buf start count => enc 0x3 buf.code 0 start count
  | .crc16 buf start count => enc 0x4 buf.code 0 start count
  | .arm => enc 0x5 0 0 0 0
  | .disarm => enc 0x6 0 0 0 0
  | .push => enc 0x7 0 0 0 0
  | .pop => enc 0x8 0 0 0 0
  | .flush => enc 0x9 0 0 0 0

/-- The assembler: it rejects an operand that does not fit its field (R88). -/
def assemble (i : Instr) : Option Word := if i.wellFormed then some (encode i) else none

/-- The instruction the decoder reads from a table word; every command is one 32-bit word (R87), and
the bits above `nbits` are 0. -/
def decodeTableWord (nbits w : Nat) : Option Instr :=
  match decode (BitVec.ofNat 32 (w % 2 ^ nbits)) with
  | .ok i => some i
  | .error _ => none

end Sys2Proof
end

