-- ==== Sys2Proof/Machine/State.lean ====
section
/-! DEFINITION. The state of 10_state.md R21 and R40, the host's actions on it (20_memory.md R54), the
reasons to stop, and the state after reset (R52). -/

namespace Sys2Proof.Machine

/-- TXBUF and RXBUF: MAX_LEN bytes (R42, R43). -/
abbrev Buffer := Vector Byte Config.maxLen

/-- The reassembly state machine's state (R45). -/
inductive Fsm where
  | idle
  | listen
  | done
  deriving DecidableEq, Repr

/-- One queued frame with its metadata (R40). Its `n` is the length of `data`, stored once (log 9). -/
structure Entry where
  data : List Byte
  inlen : BitVec 8
  trunc : Bool
  crc8ok : Bool
  last : Bool
  metaWord : Word
  deriving DecidableEq, Repr

/-- R40's `n`. -/
abbrev Entry.n (e : Entry) : Nat := e.data.length

/-- What the outside does to the block: a bus transaction at a register-map offset with its byte
lanes (R54, R55), or the platform's reset (70_reset_and_hazards.md R139). -/
inductive HostAction where
  | read (lanes : BitVec 4) (off : Nat)
  | write (lanes : BitVec 4) (off : Nat) (v : Word)
  | reset
  deriving DecidableEq, Repr

/-- The block's state (R21), and below it the model's own fields. -/
structure State where
  txBuf : Buffer
  txLen : BitVec 8
  rxBuf : Buffer
  rxLen : BitVec 8
  rxMeta : Word
  invAddr : Word
  stnAddr : Word
  crc16Acc : Half
  result : Word
  err : Bool
  errCode : BitVec 4
  errCmd : Word
  ovfSt : Bool
  ignSt : Bool
  fsm : Fsm
  lastSeen : Bool
  expCnt : BitVec 7
  framesRx : BitVec 8
  foreignCnt : BitVec 8
  ovfCnt : BitVec 8
  ignCnt : BitVec 8
  /-- Q, head first (R41). -/
  q : List Entry
  /-- The model's own: the configuration, an argument that no step changes (R21; log 4). -/
  cfg : Config
  /-- The model's own: the host's actions still to come, next first (R54, R67; log 1). -/
  pending : List HostAction
  /-- The model's own: what Read transactions returned, oldest first (R54; log 2). -/
  responses : List Word
  /-- The model's own: which reset drew the buffers' contents (R52, I3; log 3). -/
  resets : Nat
  deriving DecidableEq, Repr

/-- Reasons the machine stops with a fault: none. A host action completes, a command error being one way
to complete, or is refused (00_scope.md R15). -/
inductive Fault where
  deriving DecidableEq, Repr

/-- Reasons the model has no step. -/
inductive Refusal where
  /-- Raised by an arm of exec whose instruction has no meaning yet; no arm does. Safe. -/
  | notModelled (mnemonic : String)
  /-- Raised by a bus transaction with `off mod 4 ≠ 0`, which the spec leaves undefined (R55, I4).
  Safe (log 7). -/
  | misalignedAccess (off : Nat)
  /-- Raised by an aligned bus transaction that does not use all four byte lanes (R55, I4).
  Safe (log 7). -/
  | partialAccess (lanes : BitVec 4)
  deriving DecidableEq, Repr

/-- The state right after reset number `k`: every element at R52's value, the buffers' bytes drawn
(log 3), with the configuration and the host's side as given. -/
def State.afterReset (cfg : Config) (k : Nat) (pending : List HostAction) (responses : List Word) :
    State where
  txBuf := Vector.ofFn fun i => Config.resetTxByte k i
  txLen := 0
  rxBuf := Vector.ofFn fun i => Config.resetRxByte k i
  rxLen := 0
  rxMeta := 0
  invAddr := 0
  stnAddr := 0
  crc16Acc := cfg.crc16Init
  result := 0
  err := false
  errCode := 0
  errCmd := 0
  ovfSt := false
  ignSt := false
  fsm := .idle
  lastSeen := false
  expCnt := 0
  framesRx := 0
  foreignCnt := 0
  ovfCnt := 0
  ignCnt := 0
  q := []
  cfg := cfg
  pending := pending
  responses := responses
  resets := k

/-- This hardware right after reset, with no host action pending (R52, R139; log 1). -/
def State.reset : State := State.afterReset Config.thisHardware 0 [] []

end Sys2Proof.Machine
end

