-- ==== Sys2Proof/Machine/Ops.lean ====
section
/-! DEFINITION. The shared operations: named updates of State, buffers and byte strings
(00_scope.md R12, R13), saturating counts (R14), and the command error record
(60_exceptions.md R127). -/

namespace Sys2Proof.Machine

namespace State

/-- TXBUF and TX_LEN. -/
def setTx (s : State) (buf : Buffer) (len : BitVec 8) : State := { s with txBuf := buf, txLen := len }

/-- RXBUF, RX_LEN and RX_META. -/
def setStaging (s : State) (buf : Buffer) (len : BitVec 8) (m : Word) : State :=
  { s with rxBuf := buf, rxLen := len, rxMeta := m }

/-- INV_ADDR and STN_ADDR. -/
def setAddrs (s : State) (inv stn : Word) : State := { s with invAddr := inv, stnAddr := stn }

/-- CRC16_ACC. -/
def setCrc16Acc (s : State) (c : Half) : State := { s with crc16Acc := c }

/-- RESULT. -/
def setResult (s : State) (v : Word) : State := { s with result := v }

/-- ERR, ERRCODE and ERRCMD. -/
def setError (s : State) (e : Bool) (code : BitVec 4) (cmd : Word) : State :=
  { s with err := e, errCode := code, errCmd := cmd }

/-- OVF_ST and IGN_ST. -/
def setSticky (s : State) (ovf ign : Bool) : State := { s with ovfSt := ovf, ignSt := ign }

/-- FSM, LAST_SEEN, EXP_CNT and FRAMES_RX. -/
def setAttempt (s : State) (f : Fsm) (last : Bool) (exp : BitVec 7) (frames : BitVec 8) : State :=
  { s with fsm := f, lastSeen := last, expCnt := exp, framesRx := frames }

/-- FOREIGN_CNT, OVF_CNT and IGN_CNT. -/
def setDrops (s : State) (foreign ovf ign : BitVec 8) : State :=
  { s with foreignCnt := foreign, ovfCnt := ovf, ignCnt := ign }

/-- Q. -/
def setQ (s : State) (q : List Entry) : State := { s with q := q }

/-- The host actions still to come. -/
def setPending (s : State) (p : List HostAction) : State := { s with pending := p }

/-- What Reads returned. -/
def setResponses (s : State) (r : List Word) : State := { s with responses := r }

/-- `enqueue(e)`: the entry at the tail (R13, R41). -/
def enqueue (s : State) (e : Entry) : State := s.setQ (s.q ++ [e])

/-- A command with word `v` raises `c`: the first error since ERR was last cleared is recorded, and
nothing else changes (R127, R128). There is no return from an error (R129, R133). -/
def raise (s : State) (c : CmdError) (v : Word) : State :=
  if s.err then s else s.setError true c.code v

/-- A write of `v` to STATUS (10_state.md R26, R129). -/
def clearStatus (s : State) (v : Word) : State :=
  let s1 := if bits v 0 0 = 1 then s.setError false 0 0 else s
  s1.setSticky (s.ovfSt && decide (bits v 1 1 ≠ 1)) (s.ignSt && decide (bits v 2 2 ≠ 1))

end State

/-- `sat8(n) = min(n, 255)` (R13, R14). -/
def sat8 (n : Nat) : BitVec 8 := BitVec.ofNat 8 (min n 255)

/-- `sat8(c + 1)` (R48, R49). -/
def satInc (c : BitVec 8) : BitVec 8 := sat8 (c.toNat + 1)

/-- Byte `i` of a buffer as its window shows it: 0 beyond MAX_LEN (20_memory.md R60). -/
def readByte (b : Buffer) (i : Nat) : Byte := b[i]?.getD 0

/-- `B[i] <- v`; beyond MAX_LEN the write is ignored (R60). -/
def writeByte (b : Buffer) (i : Nat) (v : Byte) : Buffer := b.setIfInBounds i v

/-- The bytes of `s` at `B[a], B[a+1], ...`. -/
def writeBytes (b : Buffer) (a : Nat) : List Byte → Buffer
  | [] => b
  | x :: xs => writeBytes (writeByte b a x) (a + 1) xs

/-- `B[a..c)` (R12). -/
def slice (b : Buffer) (a c : Nat) : List Byte := (b.toList.drop a).take (c - a)

/-- Bits `lo + 7` to `lo` of a word, as a byte. -/
def byteAt (v : Word) (lo : Nat) : Byte := v.extractLsb' lo 8

/-- `addr_bytes(INV_ADDR)`, most significant byte first (R63; log 11). -/
def addrBytes (v : Word) : List Byte := [byteAt v 24, byteAt v 16, byteAt v 8, byteAt v 0]

/-- The station address, little-endian (R62). -/
def stationBytes (v : Word) : List Byte := [byteAt v 0, byteAt v 8, byteAt v 16, byteAt v 24]

/-- The CRC-16 field, high byte first (R64; log 11). -/
def crc16Bytes (c : Half) : List Byte := [c.extractLsb' 8 8, c.extractLsb' 0 8]

end Sys2Proof.Machine
end

