-- ==== Sys2Proof/Machine/Control.lean ====
section
/-! DEFINITION. The control command (43_control.md). -/

namespace Sys2Proof.Machine

/-- NOP: no state changes (R125). -/
def execNop (s : State) : Host.Outcome State Fault Refusal := .next s

end Sys2Proof.Machine
end

