-- ==== Sys2Proof/Machine/Checksum.lean ====
section
/-! DEFINITION. The CRC-8 and CRC-16 functions of 40_crc.md R93 and R94, for any parameters. -/

namespace Sys2Proof.Machine

/-- One inner step of R93: most significant bit first. -/
def crc8Shift (poly c : Byte) : Byte := if c.getLsbD 7 then (c <<< 1) ^^^ poly else c <<< 1

/-- R93's inner loop, `k` times. -/
def crc8Bits (poly : Byte) : Nat → Byte → Byte
  | 0, c => c
  | k + 1, c => crc8Bits poly k (crc8Shift poly c)

/-- R93's loop over the bytes of `s`, from the value `c`. -/
def crc8From (poly c : Byte) (s : List Byte) : Byte :=
  s.foldl (fun c x => crc8Bits poly 8 (c ^^^ x)) c

/-- `crc8(s)` (R93). -/
def crc8 (cfg : Config) (s : List Byte) : Byte := crc8From cfg.crc8Poly cfg.crc8Init s

/-- One inner step of R94: least significant bit first. -/
def crc16Shift (poly c : Half) : Half := if c.getLsbD 0 then (c >>> 1) ^^^ poly else c >>> 1

/-- R94's inner loop, `k` times. -/
def crc16Bits (poly : Half) : Nat → Half → Half
  | 0, c => c
  | k + 1, c => crc16Bits poly k (crc16Shift poly c)

/-- `crc16(init, s)` (R94). -/
def crc16 (cfg : Config) (init : Half) (s : List Byte) : Half :=
  s.foldl (fun c x => crc16Bits cfg.crc16PolyR 8 (c ^^^ x.setWidth 16)) init

end Sys2Proof.Machine
end

