-- ==== Sys2Proof/Machine/Operands.lean ====
section
/-! DEFINITION. Operands: the source range of the CRC commands (40_crc.md R98), the header bytes of
HDR (41_framing.md R102), the length law of FIN (R105), and the staged frame of PUSH
(42_reassembly.md R108, R110). -/

namespace Sys2Proof.Machine

/-- The bytes a CRC command reads, or the error it raises: QUEUE_EMPTY before RANGE (R98, R130). -/
def source (s : State) (buf : BufSel) (start count : Nat) : Except CmdError (List Byte) :=
  match buf with
  | .tx =>
    if start + count > Config.maxLen then .error .range
    else .ok (slice s.txBuf start (start + count))
  | .rx =>
    if start + count > Config.maxLen then .error .range
    else .ok (slice s.rxBuf start (start + count))
  | .qh =>
    match s.q with
    | [] => .error .queueEmpty
    | e :: _ =>
      if start + count > e.n then .error .range else .ok ((e.data.drop start).take count)

/-- What HDR writes to TXBUF[0..MAX_LEN): header, then zeros (R102). -/
def headerBytes (s : State) (mid idx : Nat) : List Byte :=
  [BitVec.ofNat 8 mid] ++ addrBytes s.invAddr ++ stationBytes s.stnAddr ++ [BitVec.ofNat 8 idx]
    ++ List.replicate (Config.maxLen - 10) 0

/-- Whether FIN adds a CRC-16: asked for, and L > 10 (R104, R105). -/
def finHasCrc16 (includeCrc16 : Bool) (len : Nat) : Bool := includeCrc16 && decide (10 < len)

/-- Where FIN puts the CRC-8 (R104's `k`). -/
def finCrc8At (includeCrc16 : Bool) (len : Nat) : Nat :=
  if finHasCrc16 includeCrc16 len then len + 2 else len

/-- The final length T (R105). -/
def finLength (includeCrc16 : Bool) (len : Nat) : Nat := finCrc8At includeCrc16 len + 1

/-- `RXBUF[0..n)` with `n = min(RX_LEN, MAX_LEN)` (R108, R110). -/
def stagedFrame (s : State) : List Byte := slice s.rxBuf 0 (min s.rxLen.toNat Config.maxLen)

end Sys2Proof.Machine
end

