-- ==== Sys2Proof/Machine/Crc.lean ====
section
/-! DEFINITION. The CRC commands (40_crc.md): CRC8 and CRC16. -/

namespace Sys2Proof.Machine

/-- CRC8: RESULT gets the CRC-8 of the range (R96). -/
def execCrc8 (buf : BufSel) (start count : Nat) (s : State) : Host.Outcome State Fault Refusal :=
  match source s buf start count with
  | .error c => .next (s.raise c (encode (.crc8 buf start count)))
  | .ok d => .next (s.setResult ((crc8 s.cfg d).setWidth 32))

/-- CRC16: CRC16_ACC and RESULT get the CRC-16 of the range, from CRC16_ACC (R97). -/
def execCrc16 (buf : BufSel) (start count : Nat) (s : State) : Host.Outcome State Fault Refusal :=
  match source s buf start count with
  | .error c => .next (s.raise c (encode (.crc16 buf start count)))
  | .ok d =>
    .next ((s.setCrc16Acc (crc16 s.cfg s.crc16Acc d)).setResult
      ((crc16 s.cfg s.crc16Acc d).setWidth 32))

end Sys2Proof.Machine
end

