-- ==== Sys2Proof/Machine/Framing.lean ====
section
/-! DEFINITION. The framer (41_framing.md): HDR and FIN. -/

namespace Sys2Proof.Machine

/-- HDR: the 10-byte header, zeros behind it, TX_LEN 0 (R102). -/
def execHdr (mid idx : Nat) (s : State) : Host.Outcome State Fault Refusal :=
  .next (s.setTx (writeBytes s.txBuf 0 (headerBytes s mid idx)) 0)

/-- FIN's first write: the CRC-16 over bytes [10, L) at L, when it adds one (R104). -/
def finWithCrc16 (s : State) (includeCrc16 : Bool) (len : Nat) : Buffer :=
  if finHasCrc16 includeCrc16 len then
    writeBytes s.txBuf len (crc16Bytes (crc16 s.cfg s.cfg.crc16Init (slice s.txBuf 10 len)))
  else s.txBuf

/-- TXBUF after FIN: then the CRC-8 over every byte before it (R104). -/
def finBuffer (s : State) (includeCrc16 : Bool) (len : Nat) : Buffer :=
  let b := finWithCrc16 s includeCrc16 len
  let k := finCrc8At includeCrc16 len
  writeByte b k (crc8 s.cfg (slice b 0 k))

/-- FIN: CRC-16 when asked and there is payload, CRC-8, and the final length; FIN_OVERFLOW before any
write when it would exceed MAX_LEN (R104). -/
def execFin (includeCrc16 : Bool) (len : Nat) (s : State) : Host.Outcome State Fault Refusal :=
  if finLength includeCrc16 len > Config.maxLen then
    .next (s.raise .finOverflow (encode (.fin includeCrc16 len)))
  else
    .next ((s.setTx (finBuffer s includeCrc16 len)
      (BitVec.ofNat 8 (finLength includeCrc16 len))).setResult
        (BitVec.ofNat 32 (finLength includeCrc16 len)))

end Sys2Proof.Machine
end

