-- ==== Sys2Proof/Machine/Flags.lean ====
section
/-! DEFINITION. The one-bit results of 42_reassembly.md: address check (R112), CRC-8 status (R114),
last-frame marker and expected count (R115). -/

namespace Sys2Proof.Machine

/-- At least 5 bytes, and bytes 1 to 4 are `addr_bytes(INV_ADDR)` (R112). -/
def addressOk (inv : Word) (d : List Byte) : Bool :=
  decide (5 ≤ d.length) && decide ((d.drop 1).take 4 = addrBytes inv)

/-- `n >= 2 and crc8(data[0..n-1)) = data[n-1]` (R114). -/
def crc8Matches (cfg : Config) (d : List Byte) : Bool :=
  decide (2 ≤ d.length) && decide (d.getLast? = some (crc8 cfg d.dropLast))

/-- Wire byte 9, the frame index (41_framing.md R101). -/
def frameIndex (d : List Byte) : Nat := (d[9]?.getD 0).toNat

/-- `n >= 10` and the frame index is strictly above ALL_FRAMES = 0x80 (R115; log 14). -/
def lastMarker (d : List Byte) : Bool := decide (10 ≤ d.length) && decide (0x80 < frameIndex d)

/-- `EXP_CNT = data[9] - 0x80` (R115, R47). -/
def expectedCount (d : List Byte) : BitVec 7 := BitVec.ofNat 7 (frameIndex d - 0x80)

end Sys2Proof.Machine
end

