-- ==== Sys2Proof/Machine/Reassembly.lean ====
section
/-! DEFINITION. The deframer and the reassembly state machine (42_reassembly.md): ARM, DISARM, PUSH,
POP and FLUSH. -/

namespace Sys2Proof.Machine

/-- ARM: listen, with a fresh attempt's marker and counters (R117). -/
def execArm (s : State) : Host.Outcome State Fault Refusal :=
  .next ((s.setAttempt .listen false 0 0).setDrops 0 0 0)

/-- DISARM: FSM goes to IDLE and keeps what the attempt gathered (R118). -/
def execDisarm (s : State) : Host.Outcome State Fault Refusal :=
  .next (s.setAttempt .idle s.lastSeen s.expCnt s.framesRx)

/-- A PUSH while FSM is not LISTEN; outcome code 4 (R111). -/
def pushIgnored (s : State) : State :=
  ((s.setDrops s.foreignCnt s.ovfCnt (satInc s.ignCnt)).setSticky s.ovfSt true).setResult 4

/-- A frame that fails the address check; outcome code 2 (R112). -/
def pushForeign (s : State) : State :=
  (s.setDrops (satInc s.foreignCnt) s.ovfCnt s.ignCnt).setResult 2

/-- A frame that meets a full queue; outcome code 3 (R113). -/
def pushOverflow (s : State) : State :=
  ((s.setDrops s.foreignCnt (satInc s.ovfCnt) s.ignCnt).setSticky true s.ignSt).setResult 3

/-- The entry PUSH creates (R114). -/
def stagedEntry (s : State) : Entry where
  data := stagedFrame s
  inlen := s.rxLen
  trunc := decide (s.rxLen.toNat > Config.maxLen)
  crc8ok := crc8Matches s.cfg (stagedFrame s)
  last := lastMarker (stagedFrame s)
  metaWord := s.rxMeta

/-- A frame that is queued; outcome code 1 for a last frame, else 0 (R108, R114, R115). -/
def pushQueued (s : State) : State :=
  let s1 := s.enqueue (stagedEntry s)
  if lastMarker (stagedFrame s) then
    (s1.setAttempt .done true (expectedCount (stagedFrame s)) (satInc s.framesRx)).setResult 1
  else
    (s1.setAttempt s.fsm s.lastSeen s.expCnt (satInc s.framesRx)).setResult 0

/-- PUSH: its checks in R109's order. -/
def execPush (s : State) : Host.Outcome State Fault Refusal :=
  if s.fsm ≠ .listen then .next (pushIgnored s)
  else if addressOk s.invAddr (stagedFrame s) = false then .next (pushForeign s)
  else if s.q.length = s.cfg.queueDepth then .next (pushOverflow s)
  else .next (pushQueued s)

/-- POP: the head leaves; QUEUE_EMPTY when there is none (R119). -/
def execPop (s : State) : Host.Outcome State Fault Refusal :=
  match s.q with
  | [] => .next (s.raise .queueEmpty (encode .pop))
  | _ :: rest => .next (s.setQ rest)

/-- FLUSH: Q becomes empty (R120). -/
def execFlush (s : State) : Host.Outcome State Fault Refusal := .next (s.setQ [])

end Sys2Proof.Machine
end

