-- ==== Sys2Proof/Machine/Dispatch.lean ====
section
/-! DEFINITION. One arm per command of 30_encoding.md R76. -/

namespace Sys2Proof.Machine

def exec (i : Instr) (s : State) : Host.Outcome State Fault Refusal :=
  match i with
  | .nop => Sys2Proof.Machine.execNop s
  | .hdr mid idx => Sys2Proof.Machine.execHdr mid idx s
  | .fin includeCrc16 len => Sys2Proof.Machine.execFin includeCrc16 len s
  | .crc8 buf start count => Sys2Proof.Machine.execCrc8 buf start count s
  | .crc16 buf start count => Sys2Proof.Machine.execCrc16 buf start count s
  | .arm => Sys2Proof.Machine.execArm s
  | .disarm => Sys2Proof.Machine.execDisarm s
  | .push => Sys2Proof.Machine.execPush s
  | .pop => Sys2Proof.Machine.execPop s
  | .flush => Sys2Proof.Machine.execFlush s

end Sys2Proof.Machine
end

