-- ==== Sys2Proof/Machine/Registers.lean ====
section
/-! DEFINITION. The register map: the address map of 20_memory.md R58, and what a Read of each
register returns and a Write of each does (10_state.md R25 to R39, R44; 20_memory.md R56, R57, R60). -/

namespace Sys2Proof.Machine

/-- The named registers of R58. -/
inductive Reg where
  | cmd | status | result | errCmd | invAddr | stnAddr | crc16Acc | txLen | rxLen | rxMeta
  | reasm | diag | qstat | qmeta | param
  deriving DecidableEq, Repr

/-- R58's offset column. -/
def Reg.offset : Reg → Nat
  | .cmd => 0x000
  | .status => 0x004
  | .result => 0x008
  | .errCmd => 0x00C
  | .invAddr => 0x010
  | .stnAddr => 0x014
  | .crc16Acc => 0x018
  | .txLen => 0x01C
  | .rxLen => 0x020
  | .rxMeta => 0x024
  | .reasm => 0x028
  | .diag => 0x02C
  | .qstat => 0x030
  | .qmeta => 0x034
  | .param => 0x038

/-- The named registers in the order of R58. -/
def Reg.all : List Reg :=
  [.cmd, .status, .result, .errCmd, .invAddr, .stnAddr, .crc16Acc, .txLen, .rxLen, .rxMeta,
   .reasm, .diag, .qstat, .qmeta, .param]

/-- `window(buf)` (30_encoding.md R89, 20_memory.md R58). -/
def window : BufSel → Nat
  | .tx => 0x100
  | .rx => 0x200
  | .qh => 0x300

/-- What an aligned offset of the map names: a register, byte `i` of a window, or nothing (R57, R58). -/
inductive Target where
  | reg (r : Reg)
  | byte (b : BufSel) (i : Nat)
  | unmapped
  deriving DecidableEq, Repr

/-- Byte `i` of window `b`, when the offset lies in its 32 words (R60). -/
def windowIndex (b : BufSel) (off : Nat) : Option Nat :=
  if window b ≤ off ∧ off < window b + 128 then some ((off - window b) / 4) else none

/-- R58 read from the offset. -/
def target (off : Nat) : Target :=
  match Reg.all.find? (fun r => r.offset = off) with
  | some r => .reg r
  | none =>
    match windowIndex .tx off, windowIndex .rx off, windowIndex .qh off with
    | some i, _, _ => .byte .tx i
    | none, some i, _ => .byte .rx i
    | none, none, some i => .byte .qh i
    | none, none, none => .unmapped

/-- REASM.STATE (R35). -/
def Fsm.code : Fsm → Nat
  | .idle => 0
  | .listen => 1
  | .done => 2

/-- STATUS (R26). -/
def statusWord (s : State) : Word :=
  BitVec.ofNat 32 (s.err.toNat + 2 * s.ovfSt.toNat + 4 * s.ignSt.toNat + 16 * s.errCode.toNat)

/-- REASM (R35). -/
def reasmWord (s : State) : Word :=
  BitVec.ofNat 32
    (s.fsm.code + 4 * s.lastSeen.toNat + 256 * s.expCnt.toNat + 65536 * s.framesRx.toNat)

/-- DIAG (R36). -/
def diagWord (s : State) : Word :=
  BitVec.ofNat 32 (s.foreignCnt.toNat + 256 * s.ovfCnt.toNat + 65536 * s.ignCnt.toNat)

/-- QSTAT (R37). -/
def qstatWord (s : State) : Word :=
  match s.q with
  | [] => 0x00080000
  | e :: _ =>
    BitVec.ofNat 32
      (s.q.length + 256 * e.n + 65536 * e.trunc.toNat + 131072 * e.crc8ok.toNat
        + 262144 * e.last.toNat + 1048576 * (decide (s.q.length = s.cfg.queueDepth)).toNat
        + 16777216 * e.inlen.toNat)

/-- QMETA (R38). -/
def qmetaWord (s : State) : Word :=
  match s.q with
  | [] => 0
  | e :: _ => e.metaWord

/-- PARAM: MAX_LEN, QUEUE_DEPTH, VERSION = 1 (R39). -/
def paramWord (s : State) : Word :=
  BitVec.ofNat 32 (Config.maxLen + 256 * s.cfg.queueDepth + 65536 * 0x01)

/-- Byte `i` of the QHEAD window: 0 beyond the head's data and when Q is empty (R44). -/
def queueHeadByte (s : State) (i : Nat) : Byte :=
  match s.q with
  | [] => 0
  | e :: _ => e.data[i]?.getD 0

/-- Byte `i` of a window (R44, R60). -/
def windowByte (s : State) : BufSel → Nat → Byte
  | .tx, i => readByte s.txBuf i
  | .rx, i => readByte s.rxBuf i
  | .qh, i => queueHeadByte s i

/-- A named register's value (R25 to R39). -/
def readReg (s : State) : Reg → Word
  | .cmd => 0
  | .status => statusWord s
  | .result => s.result
  | .errCmd => s.errCmd
  | .invAddr => s.invAddr
  | .stnAddr => s.stnAddr
  | .crc16Acc => s.crc16Acc.setWidth 32
  | .txLen => s.txLen.setWidth 32
  | .rxLen => s.rxLen.setWidth 32
  | .rxMeta => s.rxMeta
  | .reasm => reasmWord s
  | .diag => diagWord s
  | .qstat => qstatWord s
  | .qmeta => qmetaWord s
  | .param => paramWord s

/-- What `Read(off)` returns (R56, R57, R60). -/
def readTarget (s : State) : Target → Word
  | .reg r => readReg s r
  | .byte b i => (windowByte s b i).setWidth 32
  | .unmapped => 0

/-- A write of a named register other than CMD: RW registers take their writable bits, STATUS clears,
RO registers ignore it (R24 to R39). CMD holds no state of its own (R25). -/
def writeReg (s : State) (v : Word) : Reg → State
  | .cmd => s
  | .status => s.clearStatus v
  | .result => s
  | .errCmd => s
  | .invAddr => s.setAddrs v s.stnAddr
  | .stnAddr => s.setAddrs s.invAddr v
  | .crc16Acc => s.setCrc16Acc (v.setWidth 16)
  | .txLen => s
  | .rxLen => s.setStaging s.rxBuf (v.setWidth 8) s.rxMeta
  | .rxMeta => s.setStaging s.rxBuf s.rxLen v
  | .reasm => s
  | .diag => s
  | .qstat => s
  | .qmeta => s
  | .param => s

/-- What `Write(off, v)` stores (R56, R57, R60). -/
def writeTarget (s : State) (v : Word) : Target → State
  | .reg r => writeReg s v r
  | .byte .tx i => s.setTx (writeByte s.txBuf i (byteAt v 0)) s.txLen
  | .byte .rx i => s.setStaging (writeByte s.rxBuf i (byteAt v 0)) s.rxLen s.rxMeta
  | .byte .qh _ => s
  | .unmapped => s

/-- The offset of a bus address the block answers to, with its map at BASE (R53; log 13). -/
def offsetOfAddress (addr : Nat) : Option Nat :=
  if Config.base ≤ addr ∧ addr < Config.base + 0x400 then some (addr - Config.base) else none

end Sys2Proof.Machine
end

