-- ==== Sys2Proof/Machine/Bus.lean ====
section
/-! DEFINITION. One host action as one step: the shape of a bus transaction (20_memory.md R53 to R55),
Read, Write, a command (10_state.md R25), and reset (70_reset_and_hazards.md R139). -/

namespace Sys2Proof.Machine

/-- All four byte lanes: a 32-bit transaction (R55). -/
def allLanes : BitVec 4 := 0xF

/-- A transaction's shape: aligned, then all lanes; only then its effect (R55; log 7). An offset beyond the
map is one of R57's (log 8). -/
def transaction (lanes : BitVec 4) (off : Nat) (effect : Host.Outcome State Fault Refusal) :
    Host.Outcome State Fault Refusal :=
  if off % 4 ≠ 0 then .refused (.misalignedAccess off)
  else if lanes ≠ allLanes then .refused (.partialAccess lanes)
  else effect

/-- A write of `v` to CMD: decode, then the command, or the decoder's error recorded
(R25; 30_encoding.md R83; 60_exceptions.md R127). -/
def runCommand (v : Word) (s : State) : Host.Outcome State Fault Refusal :=
  match decode v with
  | .error c => .next (s.raise c v)
  | .ok i => exec i s

/-- `Read(off)`: the value goes to the host, and the block is unchanged (R56; log 2). -/
def busRead (off : Nat) (s : State) : Host.Outcome State Fault Refusal :=
  .next (s.setResponses (s.responses ++ [readTarget s (target off)]))

/-- `Write(off, v)` (R56). -/
def busWrite (off : Nat) (v : Word) (s : State) : Host.Outcome State Fault Refusal :=
  match target off with
  | .reg .cmd => runCommand v s
  | t => .next (writeTarget s v t)

/-- Reset: every element at its reset value, whatever it held; the buffers are drawn anew (R52, R139;
log 3, log 10). -/
def resetBlock (s : State) : State :=
  State.afterReset s.cfg (s.resets + 1) s.pending s.responses

/-- One host action. -/
def perform (a : HostAction) (s : State) : Host.Outcome State Fault Refusal :=
  match a with
  | .read lanes off => transaction lanes off (busRead off s)
  | .write lanes off v => transaction lanes off (busWrite off v s)
  | .reset => .next (resetBlock s)

/-- The next host action in issue order; with none, the state persists (R54, R67, R138; log 1). -/
def performNext (s : State) : Host.Outcome State Fault Refusal :=
  match s.pending with
  | [] => .next s
  | a :: rest => perform a (s.setPending rest)

end Sys2Proof.Machine
end

