-- ==== Sys2Proof/Machine/Step.lean ====
section
/-! DEFINITION. One step: the host's next action (20_memory.md R54), and the place of a command word. -/

namespace Sys2Proof.Machine

/-- One host action is one step (R54; log 1). -/
def step (s : State) : Host.Outcome State Fault Refusal := performNext s

/-- `s` with the command word as the host's next transaction, a Write of CMD (R25, R75; log 1). -/
def State.withFetchWord (s : State) (nbits w : Nat) : State :=
  s.setPending
    (.write allLanes Reg.cmd.offset (BitVec.ofNat 32 (w % 2 ^ nbits)) :: s.pending)

end Sys2Proof.Machine
end

