-- ==== Sys2Proof/Machine/Assembly.lean ====
section
/-! DEFINITION. Host programs' notation: bus accesses and pseudo-instructions (30_encoding.md R88 to
R90), expanded to host actions. -/

namespace Sys2Proof.Machine

/-- A line of host assembly (R88 to R90). -/
inductive AsmLine where
  | command (i : Instr)
  | wr (r : Reg) (v : Word)
  | rd (r : Reg)
  | wrb (toRx : Bool) (i : Nat) (v : Word)
  | rdb (buf : BufSel) (i : Nat)
  | wrs (toRx : Bool) (i : Nat) (bytes : List Byte)
  | stage (n m : Word) (bytes : List Byte)
  | clr
  | restart
  deriving DecidableEq, Repr

/-- `WR reg, v` (R89). -/
def asmWr (r : Reg) (v : Word) : HostAction := .write allLanes r.offset v

/-- The buffer a WRB or WRS names: TX or RX only (R89). -/
def asmBuf (toRx : Bool) : BufSel := if toRx then .rx else .tx

/-- `WRB buf, i, v` (R89). -/
def asmWrb (toRx : Bool) (i : Nat) (v : Word) : HostAction :=
  .write allLanes (window (asmBuf toRx) + 4 * i) v

/-- `WRS buf, i, b0 b1 ... bk` (R90). -/
def asmWrs (toRx : Bool) (i : Nat) : List Byte → List HostAction
  | [] => []
  | b :: bs => asmWrb toRx i (b.setWidth 32) :: asmWrs toRx (i + 1) bs

/-- A command mnemonic stands for `WR CMD, enc(...)`, if its operands fit (R88, R89). -/
def asmCommand (i : Instr) : Option HostAction := (assemble i).map (asmWr .cmd)

/-- The host actions a line stands for; none where the assembler must reject it (R88 to R90). -/
def expand : AsmLine → Option (List HostAction)
  | .command i => (asmCommand i).map fun a => [a]
  | .wr r v => some [asmWr r v]
  | .rd r => some [.read allLanes r.offset]
  | .wrb toRx i v => some [asmWrb toRx i v]
  | .rdb buf i => some [.read allLanes (window buf + 4 * i)]
  | .wrs toRx i bytes => some (asmWrs toRx i bytes)
  | .stage n m bytes =>
    some (asmWrs true 0 (bytes.take (min n.toNat Config.maxLen)) ++ [asmWr .rxLen n, asmWr .rxMeta m])
  | .clr => some [asmWr .status 0x00000007]
  | .restart => some [asmWr .cmd (encode .flush), asmWr .cmd (encode .arm)]

/-- A program's host actions, in order. -/
def expandAll : List AsmLine → Option (List HostAction)
  | [] => some []
  | l :: ls =>
    match expand l, expandAll ls with
    | some a, some as => some (a ++ as)
    | _, _ => none

end Sys2Proof.Machine
end

