-- ==== Sys2Proof/Safety.lean ====
section
/-! DEFINITION. What the claims are stated with: the invariant of the block (10_state.md R40, R41, R45
to R48; 42_reassembly.md R122, R123; 60_exceptions.md R126, R127), the host actions the spec defines
(20_memory.md R53, R55), and the parts of State a frame names. -/

namespace Sys2Proof.Machine

/-- An entry as PUSH creates it and nothing modifies it (R40, R110, R112, R114, R115). -/
structure Entry.Ok (cfg : Config) (e : Entry) : Prop where
  len : e.n = min e.inlen.toNat Config.maxLen
  showsAddress : 5 ≤ e.n
  trunc_iff : e.trunc = decide (e.inlen.toNat > Config.maxLen)
  crc8ok_iff : e.crc8ok = crc8Matches cfg e.data
  last_iff : e.last = lastMarker e.data

/-- The error record: empty while ERR = 0, a code of R126 while ERR = 1 (R26, R28, R126). -/
structure State.ErrorOk (s : State) : Prop where
  clear : s.err = false → s.errCode = 0 ∧ s.errCmd = 0
  code : s.err = true → 1 ≤ s.errCode.toNat ∧ s.errCode.toNat ≤ 5

/-- The reassembly state: LAST_SEEN, EXP_CNT and FSM agree (R45 to R47, R107). -/
structure State.AttemptOk (s : State) : Prop where
  unseen : s.lastSeen = false → s.expCnt = 0
  seen : s.lastSeen = true → 1 ≤ s.expCnt.toNat
  listening : s.fsm = .listen → s.lastSeen = false
  done : s.fsm = .done → s.lastSeen = true

/-- What holds at reset and after every step. -/
structure State.Inv (s : State) : Prop where
  cfg : s.cfg.wf = true
  txLen : s.txLen.toNat ≤ Config.maxLen
  depth : s.q.length ≤ s.cfg.queueDepth
  entries : ∀ e ∈ s.q, e.Ok s.cfg
  error : s.ErrorOk
  attempt : s.AttemptOk

/-- A host action the spec defines: reset, or an aligned 32-bit transaction (R55, R57, R139). -/
def HostAction.defined : HostAction → Bool
  | .read lanes off => decide (off % 4 = 0) && decide (lanes = allLanes)
  | .write lanes off _ => decide (off % 4 = 0) && decide (lanes = allLanes)
  | .reset => true

/-- The host's actions one after another, until one stops. -/
def performAll : List HostAction → State → Host.Outcome State Fault Refusal
  | [], s => .next s
  | a :: as, s =>
    match perform a s with
    | .next t => performAll as t
    | .fault r => .fault r
    | .refused r => .refused r

/-- A frame the host stages: bytes, length as it arrived, metadata (R17). -/
structure ArrivingFrame where
  bytes : Buffer
  len : BitVec 8
  metaWord : Word
  deriving DecidableEq, Repr

/-- The state with the frame in RXBUF, RX_LEN and RX_META. -/
def stageFrame (s : State) (f : ArrivingFrame) : State := s.setStaging f.bytes f.len f.metaWord

/-- Each frame staged and pushed, in order of arrival (20_memory.md R72). -/
def pushFrames : List ArrivingFrame → State → Host.Outcome State Fault Refusal
  | [], s => .next s
  | f :: fs, s =>
    match exec .push (stageFrame s f) with
    | .next t => pushFrames fs t
    | .fault r => .fault r
    | .refused r => .refused r

/-- The bytes SEL selects, whole (40_crc.md R98): a buffer, or the head entry's data, none when Q is
empty. -/
def bufferBytes (s : State) : BufSel → List Byte
  | .tx => s.txBuf.toList
  | .rx => s.rxBuf.toList
  | .qh => (s.q.head?.map Entry.data).getD []

/-- `n = min(RX_LEN, MAX_LEN)` (R108, R110). -/
def stagedLen (s : State) : Nat := min s.rxLen.toNat Config.maxLen

/-- R112's address check, byte by byte in R63's order. -/
def StagedAddressPasses (s : State) : Prop :=
  5 ≤ stagedLen s ∧
  (readByte s.rxBuf 1).toNat = bits s.invAddr 31 24 ∧
  (readByte s.rxBuf 2).toNat = bits s.invAddr 23 16 ∧
  (readByte s.rxBuf 3).toNat = bits s.invAddr 15 8 ∧
  (readByte s.rxBuf 4).toNat = bits s.invAddr 7 0

/-- R115's marker of the staged frame. -/
def StagedLast (s : State) : Prop := 10 ≤ stagedLen s ∧ 0x80 < (readByte s.rxBuf 9).toNat

/-- R114's CRC-8 status of the staged frame. -/
def StagedCrc8Ok (s : State) : Prop :=
  2 ≤ stagedLen s ∧
    crc8 s.cfg (slice s.rxBuf 0 (stagedLen s - 1)) = readByte s.rxBuf (stagedLen s - 1)

/-- The error an instruction's own checks raise (60_exceptions.md R126, R130): QUEUE_EMPTY before
RANGE, FIN_OVERFLOW by R105's length. -/
def ownError (s : State) : Instr → Option CmdError
  | .nop => none
  | .hdr _ _ => none
  | .fin includeCrc16 len =>
    if len + (if includeCrc16 = true ∧ 10 < len then 2 else 0) + 1 > Config.maxLen then
      some .finOverflow
    else none
  | .crc8 buf start count =>
    if buf = .qh ∧ s.q = [] then some .queueEmpty
    else if start + count > (bufferBytes s buf).length then some .range else none
  | .crc16 buf start count =>
    if buf = .qh ∧ s.q = [] then some .queueEmpty
    else if start + count > (bufferBytes s buf).length then some .range else none
  | .arm => none
  | .disarm => none
  | .push => none
  | .pop => if s.q = [] then some .queueEmpty else none
  | .flush => none

/-- Writing `v` to CMD raises `c`: the decoder's error, or the decoded instruction's own (R130). -/
def Raises (s : State) (v : Word) (c : CmdError) : Prop :=
  decode v = .error c ∨ ∃ i, decode v = .ok i ∧ ownError s i = some c

namespace State

/-! Each `same…` says that one part of State is the same in two states. -/

def sameTx (s t : State) : Prop := t.txBuf = s.txBuf ∧ t.txLen = s.txLen

def sameStaging (s t : State) : Prop := t.rxBuf = s.rxBuf ∧ t.rxLen = s.rxLen ∧ t.rxMeta = s.rxMeta

def sameAddrs (s t : State) : Prop := t.invAddr = s.invAddr ∧ t.stnAddr = s.stnAddr

def sameAcc (s t : State) : Prop := t.crc16Acc = s.crc16Acc

def sameResult (s t : State) : Prop := t.result = s.result

def sameError (s t : State) : Prop := t.err = s.err ∧ t.errCode = s.errCode ∧ t.errCmd = s.errCmd

def sameSticky (s t : State) : Prop := t.ovfSt = s.ovfSt ∧ t.ignSt = s.ignSt

def sameAttempt (s t : State) : Prop :=
  t.fsm = s.fsm ∧ t.lastSeen = s.lastSeen ∧ t.expCnt = s.expCnt ∧ t.framesRx = s.framesRx

def sameDrops (s t : State) : Prop :=
  t.foreignCnt = s.foreignCnt ∧ t.ovfCnt = s.ovfCnt ∧ t.ignCnt = s.ignCnt

def sameQueue (s t : State) : Prop := t.q = s.q

/-- The model's own fields: configuration, actions to come, responses, draw number. -/
def sameOwn (s t : State) : Prop :=
  t.cfg = s.cfg ∧ t.pending = s.pending ∧ t.responses = s.responses ∧ t.resets = s.resets

/-- All of the block's state but the error record (R128). -/
def sameButError (s t : State) : Prop :=
  s.sameTx t ∧ s.sameStaging t ∧ s.sameAddrs t ∧ s.sameAcc t ∧ s.sameResult t ∧ s.sameSticky t ∧
    s.sameAttempt t ∧ s.sameDrops t ∧ s.sameQueue t ∧ s.sameOwn t

end State

end Sys2Proof.Machine
end

