-- ==== Sys2Proof/Certificates/Slice0/Obligations.lean ====
section
/-! DEFINITION. The statements for the provers, from the numbered rules of spec/. -/

open Sys2Proof Sys2Proof.Machine

/-! ## Reset -/

/-- R52: the reset event always happens, whatever the block held, and after it, as in State.reset, every element
has R52's value and the registers read as R52's last sentence says; State.reset's configuration is this
hardware's, whose CRC16_INIT is 0xFFFF. R52 leaves the bytes of TXBUF and RXBUF unspecified, so the statement says
nothing of them. -/
def Obligations.ResetGivesResetValues : Prop :=
  (∀ s : State, ∃ t, perform .reset s = .next t) ∧ State.reset.crc16Acc = 0xFFFF ∧
  ∀ (t : State), t.cfg.wf = true → (t = State.reset ∨ ∃ s, perform .reset s = .next t) →
    t.txLen = 0 ∧ t.rxLen = 0 ∧ t.rxMeta = 0 ∧ t.invAddr = 0 ∧ t.stnAddr = 0 ∧
    t.crc16Acc = t.cfg.crc16Init ∧ t.result = 0 ∧ t.errCmd = 0 ∧ t.err = false ∧ t.errCode = 0 ∧
    t.ovfSt = false ∧ t.ignSt = false ∧ t.fsm = .idle ∧ t.lastSeen = false ∧ t.expCnt = 0 ∧
    t.framesRx = 0 ∧ t.foreignCnt = 0 ∧ t.ovfCnt = 0 ∧ t.ignCnt = 0 ∧ t.q = [] ∧
    (∀ off ∈ [0x000, 0x004, 0x008, 0x00C, 0x010, 0x014, 0x01C, 0x020, 0x024, 0x028, 0x02C, 0x034],
      readTarget t (target off) = 0) ∧
    (readTarget t (target 0x018)).toNat = t.cfg.crc16Init.toNat ∧
    readTarget t (target 0x030) = 0x00080000 ∧
    (readTarget t (target 0x038)).toNat = 32 + 256 * t.cfg.queueDepth + 65536 ∧
    ∀ i, i < 32 → readTarget t (target (0x300 + 4 * i)) = 0

/-- What the model adds to R52 (log 3, log 10): after a reset the buffers hold a new draw, and the configuration and
the host's own lists stay. -/
def Obligations.ResetDrawsBuffersAnew : Prop :=
  ∀ (s : State), ∃ t, perform .reset s = .next t ∧ t.resets = s.resets + 1 ∧
    (∀ i, i < 32 → readByte t.txBuf i = Config.resetTxByte t.resets i ∧
      readByte t.rxBuf i = Config.resetRxByte t.resets i) ∧
    t.cfg = s.cfg ∧ t.pending = s.pending ∧ t.responses = s.responses

/-! ## Commands and their words -/

/-- R25: a write of v to CMD executes the command v; a decoding error is recorded. The model's step
takes the host's next action off its list (log 1). -/
def Obligations.StepRunsDecodedCommand : Prop :=
  ∀ (s : State) (v : Word) (rest : List HostAction),
    s.pending = .write allLanes 0x000 v :: rest →
      (∀ i, decode v = .ok i → step s = exec i (s.setPending rest)) ∧
      (∀ c, decode v = .error c → step s = .next ((s.setPending rest).raise c v))

/-- R83: the decoder's tests and their order. -/
def Obligations.DecodeTestsInOrder : Prop :=
  ∀ v : Word,
    (10 ≤ bits v 3 0 → decode v = .error .illegalOp) ∧
    (bits v 3 0 < 10 → (bits v 7 7 ≠ 0 ∨ bits v 31 24 ≠ 0) → decode v = .error .reserved) ∧
    (bits v 7 7 = 0 → bits v 31 24 = 0 →
      ((bits v 3 0 = 0 ∨ (5 ≤ bits v 3 0 ∧ bits v 3 0 ≤ 9)) → bits v 31 4 ≠ 0 →
        decode v = .error .reserved) ∧
      (bits v 3 0 = 1 →
        decode v = if bits v 5 4 ≠ 0 ∨ bits v 6 6 ≠ 0 then .error .reserved
          else .ok (.hdr (bits v 15 8) (bits v 23 16))) ∧
      (bits v 3 0 = 2 →
        decode v = if bits v 5 4 ≠ 0 ∨ bits v 23 16 ≠ 0 then .error .reserved
          else .ok (.fin (bits v 6 6 == 1) (bits v 15 8))) ∧
      (bits v 3 0 = 3 ∨ bits v 3 0 = 4 → bits v 6 6 ≠ 0 ∨ bits v 5 4 = 3 →
        decode v = .error .reserved) ∧
      (∀ b : BufSel, bits v 6 6 = 0 → bits v 5 4 = b.code →
        (bits v 3 0 = 3 → decode v = .ok (.crc8 b (bits v 15 8) (bits v 23 16))) ∧
        (bits v 3 0 = 4 → decode v = .ok (.crc16 b (bits v 15 8) (bits v 23 16))))) ∧
    (v = 0 → decode v = .ok .nop) ∧ (v = 5 → decode v = .ok .arm) ∧
    (v = 6 → decode v = .ok .disarm) ∧ (v = 7 → decode v = .ok .push) ∧
    (v = 8 → decode v = .ok .pop) ∧ (v = 9 → decode v = .ok .flush)

/-- R75, R83, R88: decoding the word of a well-formed instruction gives it back, every operand at every
value. -/
def Obligations.DecodeOfEncodeIsIdentity : Prop :=
  ∀ i : Instr, i.wellFormed = true → decode (encode i) = .ok i

/-- R82 to R87: each command has exactly one word, so a word that decodes is its instruction's word, and
its operands fit their fields. -/
def Obligations.EncodeOfDecodeIsIdentity : Prop :=
  ∀ (v : Word) (i : Instr), decode v = .ok i → i.wellFormed = true ∧ encode i = v

/-- R91 and R92: the worked encodings and the words that raise errors. -/
def Obligations.WorkedEncodings : Prop :=
  assemble (.hdr 0x15 0x80) = some 0x00801501 ∧ decode 0x00801501 = .ok (.hdr 0x15 0x80) ∧
  assemble (.fin true 26) = some 0x00001A42 ∧ decode 0x00001A42 = .ok (.fin true 26) ∧
  assemble (.fin false 11) = some 0x00000B02 ∧ decode 0x00000B02 = .ok (.fin false 11) ∧
  assemble (.crc8 .tx 0 28) = some 0x001C0003 ∧ decode 0x001C0003 = .ok (.crc8 .tx 0 28) ∧
  assemble (.crc16 .qh 10 16) = some 0x00100A24 ∧ decode 0x00100A24 = .ok (.crc16 .qh 10 16) ∧
  assemble .push = some 0x00000007 ∧ decode 0x00000007 = .ok .push ∧
  assemble .arm = some 0x00000005 ∧ decode 0x00000005 = .ok .arm ∧
  decode 0x0000000A = .error .illegalOp ∧
  decode 0x00000080 = .error .reserved ∧ decode 0x00000105 = .error .reserved ∧
  decode 0x00000041 = .error .reserved ∧ decode 0x00010002 = .error .reserved ∧
  decode 0x00000033 = .error .reserved ∧ decode 0x01000007 = .error .reserved

/-- R84, R85: a reserved encoding written to CMD raises its error, code 1 or 2, and has no other effect. -/
def Obligations.ReservedEncodingsRaise : Prop :=
  ∀ (s : State) (v : Word),
    (10 ≤ bits v 3 0 → runCommand v s = .next (s.raise .illegalOp v)) ∧
    (bits v 3 0 = 3 ∨ bits v 3 0 = 4 → bits v 5 4 = 3 →
      runCommand v s = .next (s.raise .reserved v)) ∧
    (bits v 3 0 < 10 →
      (bits v 7 7 ≠ 0 ∨ bits v 31 24 ≠ 0 ∨ (bits v 6 6 ≠ 0 ∧ bits v 3 0 ≠ 2) ∨
        (bits v 5 4 ≠ 0 ∧ bits v 3 0 ≠ 3 ∧ bits v 3 0 ≠ 4) ∨
        (bits v 15 8 ≠ 0 ∧ (bits v 3 0 = 0 ∨ 5 ≤ bits v 3 0)) ∨
        (bits v 23 16 ≠ 0 ∧ (bits v 3 0 = 0 ∨ bits v 3 0 = 2 ∨ 5 ≤ bits v 3 0))) →
      runCommand v s = .next (s.raise .reserved v)) ∧
    (s.err = false → (s.raise .illegalOp v).errCode = 1 ∧ (s.raise .reserved v).errCode = 2) ∧
    s.sameButError (s.raise .illegalOp v) ∧ s.sameButError (s.raise .reserved v)

/-! ## Command errors -/

/-- R127: the first error since ERR was last cleared is recorded, with its code (R126's column) and its word;
later ones keep the first record. Nothing else changes. -/
def Obligations.FirstErrorIsRecorded : Prop :=
  ∀ (s : State) (c : CmdError) (v : Word),
    (s.err = false → (s.raise c v).err = true ∧ (s.raise c v).errCmd = v ∧
      (s.raise c v).errCode.toNat =
        (match c with
          | .illegalOp => 1
          | .reserved => 2
          | .range => 3
          | .finOverflow => 4
          | .queueEmpty => 5)) ∧
    (s.err = true → s.sameError (s.raise c v)) ∧ s.sameButError (s.raise c v)

/-- R128, with R130's order: an instruction raises exactly the first error that applies, with its own word, and
then the state is that before it plus the record; an instruction that raises none completes and leaves the
record alone. -/
def Obligations.InstructionErrorsArePrecise : Prop :=
  ∀ (i : Instr) (s : State),
    (∀ c, ownError s i = some c → exec i s = .next (s.raise c (encode i))) ∧
    (ownError s i = none → ∃ t, exec i s = .next t ∧ s.sameError t) ∧
    ∀ v : Word,
      (∀ c, decode v = .error c → runCommand v s = .next (s.raise c v)) ∧
      (decode v = .ok i → ∀ c, ownError s i = some c → runCommand v s = .next (s.raise c v)) ∧
      ∀ c, s.sameButError (s.raise c v)

/-- R128 for any command word: one that raises an error completes and changes nothing but the record; with ERR = 1
not even that (R127); one that raises none leaves the record alone. -/
def Obligations.ErroneousCommandChangesOnlyRecord : Prop :=
  ∀ (s : State) (v : Word), ∃ t, runCommand v s = .next t ∧
    (∀ c, Raises s v c → s.sameButError t ∧ (s.err = true → s.sameError t) ∧
      (s.err = false → t.err = true ∧ t.errCode = c.code ∧ t.errCmd = v)) ∧
    ((∀ c, ¬Raises s v c) → s.sameError t)

/-- R129: ERR and its record stay until the host writes STATUS with bit 0 set, which clears the three together, or a
reset; an error blocks nothing: two states that differ in the error record only run a command word alike but for
that record. -/
def Obligations.ErrorStaysAndBlocksNothing : Prop :=
  (∀ (s t : State) (a : HostAction), perform a s = .next t → s.err = true →
    s.sameError t ∨
    ((a = .reset ∨ ∃ v, a = .write allLanes 0x004 v ∧ bits v 0 0 = 1) ∧
      t.err = false ∧ t.errCode = 0 ∧ t.errCmd = 0)) ∧
  (∀ (s : State) (v : Word), bits v 0 0 = 1 → ∃ t, perform (.write allLanes 0x004 v) s = .next t ∧
    t.err = false ∧ t.errCode = 0 ∧ t.errCmd = 0) ∧
  (∀ s : State, ∃ t, perform .reset s = .next t ∧
    t.err = false ∧ t.errCode = 0 ∧ t.errCmd = 0) ∧
  ∀ (s : State) (v : Word) (e : Bool) (code : BitVec 4) (cmd : Word),
    ∃ t u, runCommand v s = .next t ∧ runCommand v (s.setError e code cmd) = .next u ∧
      t.sameButError u

/-! ## NOP -/

/-- R125: no state changes; RESERVED when any of bits 4 to 31 is set. -/
def Obligations.NopDoesNothing : Prop :=
  ∀ (s : State), exec .nop s = .next s ∧ runCommand 0x00000000 s = .next s ∧
    ∀ v : Word, bits v 3 0 = 0 → bits v 31 4 ≠ 0 → runCommand v s = .next (s.raise .reserved v)

/-! ## HDR and FIN -/

/-- R102, R103: the ten header bytes, zeros behind them, TX_LEN 0, and nothing else; RESERVED when SEL, F
or a reserved bit is nonzero. -/
def Obligations.HdrBuildsHeader : Prop :=
  ∀ (s : State) (mid idx : Nat), mid < 256 → idx < 256 →
    (∃ t, exec (.hdr mid idx) s = .next t ∧
      (readByte t.txBuf 0).toNat = mid ∧
      (readByte t.txBuf 1).toNat = bits s.invAddr 31 24 ∧
      (readByte t.txBuf 2).toNat = bits s.invAddr 23 16 ∧
      (readByte t.txBuf 3).toNat = bits s.invAddr 15 8 ∧
      (readByte t.txBuf 4).toNat = bits s.invAddr 7 0 ∧
      (readByte t.txBuf 5).toNat = bits s.stnAddr 7 0 ∧
      (readByte t.txBuf 6).toNat = bits s.stnAddr 15 8 ∧
      (readByte t.txBuf 7).toNat = bits s.stnAddr 23 16 ∧
      (readByte t.txBuf 8).toNat = bits s.stnAddr 31 24 ∧
      (readByte t.txBuf 9).toNat = idx ∧
      (∀ i, 10 ≤ i → i < 32 → readByte t.txBuf i = 0) ∧ t.txLen = 0 ∧
      s.sameStaging t ∧ s.sameAddrs t ∧ s.sameAcc t ∧ s.sameResult t ∧ s.sameError t ∧
      s.sameSticky t ∧ s.sameAttempt t ∧ s.sameDrops t ∧ s.sameQueue t ∧ s.sameOwn t) ∧
    ∀ v : Word, bits v 3 0 = 1 →
      if bits v 5 4 ≠ 0 ∨ bits v 6 6 ≠ 0 ∨ bits v 7 7 ≠ 0 ∨ bits v 31 24 ≠ 0 then
        runCommand v s = .next (s.raise .reserved v)
      else runCommand v s = exec (.hdr (bits v 15 8) (bits v 23 16)) s

/-- R104, R105: when the final length T fits, FIN writes TXBUF[L..T) only: the CRC-16 over bytes [10, L), high byte
first, when asked and L > 10, then the CRC-8 over every byte before it; TX_LEN and RESULT get T. When T would
exceed MAX_LEN, which is L above 29 with the CRC-16 and above 31 without, it raises FIN_OVERFLOW and writes nothing.
RESERVED when SEL, B or a reserved bit is nonzero. -/
def Obligations.FinAppendsCrcsOrOverflows : Prop :=
  ∀ (s : State),
    (∀ (f : Bool) (len T : Nat), T = len + (if f = true ∧ 10 < len then 2 else 0) + 1 → T ≤ 32 →
      ∃ t, exec (.fin f len) s = .next t ∧
        (f = true → 10 < len →
          (readByte t.txBuf len).toNat =
            (crc16 s.cfg s.cfg.crc16Init (slice s.txBuf 10 len)).toNat / 256 ∧
          (readByte t.txBuf (len + 1)).toNat =
            (crc16 s.cfg s.cfg.crc16Init (slice s.txBuf 10 len)).toNat % 256) ∧
        readByte t.txBuf (T - 1) = crc8 s.cfg (slice t.txBuf 0 (T - 1)) ∧
        (∀ i, i < len ∨ T ≤ i → readByte t.txBuf i = readByte s.txBuf i) ∧
        t.txLen.toNat = T ∧ t.result.toNat = T ∧
        s.sameStaging t ∧ s.sameAddrs t ∧ s.sameAcc t ∧ s.sameError t ∧ s.sameSticky t ∧
        s.sameAttempt t ∧ s.sameDrops t ∧ s.sameQueue t ∧ s.sameOwn t) ∧
    (∀ len, 29 < len → len < 256 →
      exec (.fin true len) s = .next (s.raise .finOverflow (encode (.fin true len)))) ∧
    (∀ len, 31 < len → len < 256 →
      exec (.fin false len) s = .next (s.raise .finOverflow (encode (.fin false len)))) ∧
    (∀ w, s.sameButError (s.raise .finOverflow w)) ∧
    ∀ v : Word, bits v 3 0 = 2 →
      if bits v 5 4 ≠ 0 ∨ bits v 23 16 ≠ 0 ∨ bits v 7 7 ≠ 0 ∨ bits v 31 24 ≠ 0 then
        runCommand v s = .next (s.raise .reserved v)
      else runCommand v s = exec (.fin (bits v 6 6 == 1) (bits v 15 8)) s

/-- R106: after a FIN that raised nothing the CRC-8 is the last byte over every preceding byte, the
length is at most 32, and with the default CRC-8 the whole frame's CRC-8 is 0. -/
def Obligations.FinishedFrameChecks : Prop :=
  ∀ (s : State) (f : Bool) (len : Nat), ownError s (.fin f len) = none →
    ∃ t, exec (.fin f len) s = .next t ∧ 1 ≤ t.txLen.toNat ∧ t.txLen.toNat ≤ 32 ∧
      readByte t.txBuf (t.txLen.toNat - 1) = crc8 s.cfg (slice t.txBuf 0 (t.txLen.toNat - 1)) ∧
      (s.cfg.crc8Poly = 0x01 → s.cfg.crc8Init = 0x00 →
        crc8 s.cfg (slice t.txBuf 0 t.txLen.toNat) = 0)

/-- R63's and R106's closing sentences: a frame built by HDR, finalized by FIN with L of at least 10 and staged
while INV_ADDR is the same passes PUSH's address check. -/
def Obligations.OwnFramePassesAddressCheck : Prop :=
  ∀ (s : State) (mid idx : Nat) (f : Bool) (len : Nat), mid < 256 → idx < 256 → 10 ≤ len →
    ownError s (.fin f len) = none →
    ∃ t u, exec (.hdr mid idx) s = .next t ∧ exec (.fin f len) t = .next u ∧
      ∀ r : State, r.invAddr = s.invAddr → r.rxBuf = u.txBuf → r.rxLen = u.txLen →
        StagedAddressPasses r ∧ addressOk r.invAddr (stagedFrame r) = true

/-! ## CRC commands and functions -/

/-- R93, R94: the two functions byte by byte and bit by bit, for any parameters, and this hardware's
parameters. -/
def Obligations.CrcFunctionsFollowAlgorithms : Prop :=
  Config.thisHardware.crc8Init = 0x00 ∧ Config.thisHardware.crc8Poly = 0x01 ∧
  Config.thisHardware.crc16Init = 0xFFFF ∧ Config.thisHardware.crc16PolyR = 0xA001 ∧
  ∀ (cfg : Config),
    crc8 cfg [] = cfg.crc8Init ∧
    (∀ (s : List Byte) (x : Byte), crc8 cfg (s ++ [x]) =
      (crc8Shift cfg.crc8Poly)^[8] (crc8 cfg s ^^^ x)) ∧
    (∀ p c : Byte, (crc8Shift p c).toNat =
      if 128 ≤ c.toNat then 2 * c.toNat % 256 ^^^ p.toNat else 2 * c.toNat % 256) ∧
    (∀ init : Half, crc16 cfg init [] = init) ∧
    (∀ (init : Half) (s : List Byte) (x : Byte), crc16 cfg init (s ++ [x]) =
      (crc16Shift cfg.crc16PolyR)^[8] (crc16 cfg init s ^^^ x.setWidth 16)) ∧
    ∀ p c : Half, (crc16Shift p c).toNat =
      if c.toNat % 2 = 1 then c.toNat / 2 ^^^ p.toNat else c.toNat / 2

/-- R95: (a) chaining, for any parameters; (b) with the default CRC-8 the XOR of all bytes, so a flipped
bit flips the same bit of the result and two flips of one bit position cancel; (c) a string followed by its
CRC-8 checks to 0; (d) the check values. -/
def Obligations.CrcProperties : Prop :=
  (∀ (cfg : Config) (init : Half) (s t : List Byte),
    crc16 cfg init (s ++ t) = crc16 cfg (crc16 cfg init s) t) ∧
  (∀ (cfg : Config) (s t : List Byte), crc8 cfg (s ++ t) = crc8From cfg.crc8Poly (crc8 cfg s) t) ∧
  (∀ cfg : Config, cfg.crc8Poly = 0x01 → cfg.crc8Init = 0x00 →
    (∀ s : List Byte, crc8 cfg s = s.foldl (· ^^^ ·) 0) ∧
    (∀ (s t : List Byte) (x m : Byte),
      crc8 cfg (s ++ [x ^^^ m] ++ t) = crc8 cfg (s ++ [x] ++ t) ^^^ m) ∧
    (∀ (s t u : List Byte) (x y m : Byte),
      crc8 cfg (s ++ [x ^^^ m] ++ t ++ [y ^^^ m] ++ u) = crc8 cfg (s ++ [x] ++ t ++ [y] ++ u)) ∧
    ∀ s : List Byte, crc8 cfg (s ++ [crc8 cfg s]) = 0) ∧
  crc8 Config.thisHardware [0x31, 0x32, 0x33, 0x34, 0x35, 0x36, 0x37, 0x38, 0x39] = 0x31 ∧
  crc16 Config.thisHardware 0xFFFF [0x31, 0x32, 0x33, 0x34, 0x35, 0x36, 0x37, 0x38, 0x39] = 0x4B37

/-- R96: CRC8's result and its errors in their order, RESULT alone written; RESERVED from
decoding. -/
def Obligations.Crc8CommandResult : Prop :=
  ∀ (s : State) (buf : BufSel) (a b : Nat), a < 256 → b < 256 →
    (buf = .qh → s.q = [] →
      exec (.crc8 buf a b) s = .next (s.raise .queueEmpty (encode (.crc8 buf a b)))) ∧
    (¬(buf = .qh ∧ s.q = []) → a + b > (bufferBytes s buf).length →
      exec (.crc8 buf a b) s = .next (s.raise .range (encode (.crc8 buf a b)))) ∧
    (¬(buf = .qh ∧ s.q = []) → a + b ≤ (bufferBytes s buf).length →
      ∃ t, exec (.crc8 buf a b) s = .next t ∧
        t.result.toNat = (crc8 s.cfg (((bufferBytes s buf).drop a).take b)).toNat ∧
        s.sameTx t ∧ s.sameStaging t ∧ s.sameAddrs t ∧ s.sameAcc t ∧ s.sameError t ∧
        s.sameSticky t ∧ s.sameAttempt t ∧ s.sameDrops t ∧ s.sameQueue t ∧ s.sameOwn t) ∧
    ∀ v : Word, bits v 3 0 = 3 →
      (bits v 6 6 ≠ 0 ∨ bits v 5 4 = 3 ∨ bits v 7 7 ≠ 0 ∨ bits v 31 24 ≠ 0 →
        runCommand v s = .next (s.raise .reserved v)) ∧
      (bits v 6 6 = 0 → bits v 5 4 = buf.code → bits v 7 7 = 0 → bits v 31 24 = 0 →
        runCommand v s = exec (.crc8 buf (bits v 15 8) (bits v 23 16)) s)

/-- R97: CRC16 starts from CRC16_ACC and writes CRC16_ACC and RESULT alone; its errors in their
order leave both unchanged; RESERVED from decoding. -/
def Obligations.Crc16CommandResult : Prop :=
  ∀ (s : State) (buf : BufSel) (a b : Nat), a < 256 → b < 256 →
    (buf = .qh → s.q = [] →
      exec (.crc16 buf a b) s = .next (s.raise .queueEmpty (encode (.crc16 buf a b)))) ∧
    (¬(buf = .qh ∧ s.q = []) → a + b > (bufferBytes s buf).length →
      exec (.crc16 buf a b) s = .next (s.raise .range (encode (.crc16 buf a b)))) ∧
    (¬(buf = .qh ∧ s.q = []) → a + b ≤ (bufferBytes s buf).length →
      ∃ t, exec (.crc16 buf a b) s = .next t ∧
        t.crc16Acc = crc16 s.cfg s.crc16Acc (((bufferBytes s buf).drop a).take b) ∧
        t.result.toNat = t.crc16Acc.toNat ∧
        s.sameTx t ∧ s.sameStaging t ∧ s.sameAddrs t ∧ s.sameError t ∧
        s.sameSticky t ∧ s.sameAttempt t ∧ s.sameDrops t ∧ s.sameQueue t ∧ s.sameOwn t) ∧
    ∀ v : Word, bits v 3 0 = 4 →
      (bits v 6 6 ≠ 0 ∨ bits v 5 4 = 3 ∨ bits v 7 7 ≠ 0 ∨ bits v 31 24 ≠ 0 →
        runCommand v s = .next (s.raise .reserved v)) ∧
      (bits v 6 6 = 0 → bits v 5 4 = buf.code → bits v 7 7 = 0 → bits v 31 24 = 0 →
        runCommand v s = exec (.crc16 buf (bits v 15 8) (bits v 23 16)) s)

/-- R98: the source of both CRC commands: the buffer SEL names and its limit, QUEUE_EMPTY before RANGE, and the bytes
of the range, a range that ends at the limit and a count of 0 included. -/
def Obligations.CrcSourceRange : Prop :=
  ∀ (s : State) (a b : Nat),
    (∀ (B : Buffer) (buf : BufSel), (buf = .tx ∧ B = s.txBuf) ∨ (buf = .rx ∧ B = s.rxBuf) →
      (a + b > 32 → source s buf a b = .error .range) ∧
      (a + b ≤ 32 → ∃ d, source s buf a b = .ok d ∧ d.length = b ∧
        ∀ k, k < b → d[k]? = some (readByte B (a + k)))) ∧
    (s.q = [] → source s .qh a b = .error .queueEmpty) ∧
    ∀ e rest, s.q = e :: rest →
      (a + b > e.n → source s .qh a b = .error .range) ∧
      (a + b ≤ e.n → ∃ d, source s .qh a b = .ok d ∧ d.length = b ∧
        ∀ k, k < b → d[k]? = e.data[a + k]?)

/-- R99: a non-empty head's CRC-8 status is what `CRC8 QH, 0, n-1` returns compared with the last byte. -/
def Obligations.ConsumerChecksCrc8 : Prop :=
  ∀ (s : State) (e : Entry) (rest : List Entry), s.Inv → s.q = e :: rest →
    ∃ t, exec (.crc8 .qh 0 (e.n - 1)) s = .next t ∧
      (e.crc8ok = true ↔ t.result = readTarget s (target (0x300 + 4 * (e.n - 1))))

/-- R100: a consumer checks the CRC-16 that FIN appended by starting CRC16 at CRC16_INIT over
`TX, 10, T - 13` and comparing with the two bytes before the CRC-8. -/
def Obligations.ConsumerChecksCrc16 : Prop :=
  ∀ (s : State) (len : Nat), 10 < len → len ≤ 29 →
    ∃ t u, exec (.fin true len) s = .next t ∧ t.txLen.toNat = len + 3 ∧
      exec (.crc16 .tx 10 (t.txLen.toNat - 13)) (t.setCrc16Acc s.cfg.crc16Init) = .next u ∧
      u.result.toNat = 256 * (readByte u.txBuf (t.txLen.toNat - 3)).toNat
        + (readByte u.txBuf (t.txLen.toNat - 2)).toNat

/-! ## PUSH -/

/-- R111: a PUSH while FSM is IDLE or DONE: IGN_CNT counts it, saturating, IGN_ST is set, RESULT is 4;
nothing else changes, and no byte of RXBUF matters. -/
def Obligations.PushIsIgnoredUnlessListening : Prop :=
  ∀ (s : State), s.fsm ≠ .listen →
    ∃ t, exec .push s = .next t ∧ t.ignCnt.toNat = min (s.ignCnt.toNat + 1) 255 ∧
      t.ignSt = true ∧ t.result = 4 ∧ t.foreignCnt = s.foreignCnt ∧ t.ovfCnt = s.ovfCnt ∧
      t.ovfSt = s.ovfSt ∧ s.sameTx t ∧ s.sameStaging t ∧ s.sameAddrs t ∧ s.sameAcc t ∧
      s.sameError t ∧ s.sameAttempt t ∧ s.sameQueue t ∧ s.sameOwn t ∧
      ∀ b : Buffer, exec .push { s with rxBuf := b } = .next { t with rxBuf := b }

/-- R112: a frame that fails the address check is dropped, whether Q is full or not: FOREIGN_CNT counts it,
saturating, RESULT is 2; nothing else changes. A frame that passes is not dropped as foreign, whatever its other
bytes and STN_ADDR are. -/
def Obligations.PushDropsForeignFrame : Prop :=
  ∀ (s : State), s.fsm = .listen →
    (¬StagedAddressPasses s →
      ∃ t, exec .push s = .next t ∧ t.foreignCnt.toNat = min (s.foreignCnt.toNat + 1) 255 ∧
        t.result = 2 ∧ t.ovfCnt = s.ovfCnt ∧ t.ignCnt = s.ignCnt ∧
        s.sameTx t ∧ s.sameStaging t ∧ s.sameAddrs t ∧ s.sameAcc t ∧ s.sameError t ∧
        s.sameSticky t ∧ s.sameAttempt t ∧ s.sameQueue t ∧ s.sameOwn t) ∧
    (StagedAddressPasses s →
      ∃ t, exec .push s = .next t ∧ t.foreignCnt = s.foreignCnt ∧ t.result ≠ 2)

/-- R113: a frame that passes the address check and meets a full queue is dropped: OVF_CNT counts it,
saturating, OVF_ST is set, RESULT is 3; FSM and LAST_SEEN stay, whatever its frame index. -/
def Obligations.PushDropsOnFullQueue : Prop :=
  ∀ (s : State), s.fsm = .listen → StagedAddressPasses s → s.q.length = s.cfg.queueDepth →
    ∃ t, exec .push s = .next t ∧ t.ovfCnt.toNat = min (s.ovfCnt.toNat + 1) 255 ∧
      t.ovfSt = true ∧ t.result = 3 ∧ t.foreignCnt = s.foreignCnt ∧ t.ignCnt = s.ignCnt ∧
      t.ignSt = s.ignSt ∧ s.sameTx t ∧ s.sameStaging t ∧ s.sameAddrs t ∧ s.sameAcc t ∧
      s.sameError t ∧ s.sameAttempt t ∧ s.sameQueue t ∧ s.sameOwn t

/-- R110, R114, R115: any other frame is queued at the tail with the first min(RX_LEN, MAX_LEN) bytes, its
length as it arrived, its truncation, CRC-8 and marker bits and its metadata; FRAMES_RX counts it,
saturating; a last frame sets LAST_SEEN, EXP_CNT, FSM and RESULT. -/
def Obligations.PushQueuesFrame : Prop :=
  ∀ (s : State), s.fsm = .listen → StagedAddressPasses s → s.q.length ≠ s.cfg.queueDepth →
    ∃ t e, exec .push s = .next t ∧ t.q = s.q ++ [e] ∧
      e.n = min s.rxLen.toNat 32 ∧ (∀ i, i < e.n → e.data[i]? = some (readByte s.rxBuf i)) ∧
      e.inlen = s.rxLen ∧ (e.trunc = true ↔ 32 < s.rxLen.toNat) ∧ e.metaWord = s.rxMeta ∧
      (e.crc8ok = true ↔ StagedCrc8Ok s) ∧ (e.last = true ↔ StagedLast s) ∧
      t.framesRx.toNat = min (s.framesRx.toNat + 1) 255 ∧
      (StagedLast s → t.lastSeen = true ∧ t.expCnt.toNat = (readByte s.rxBuf 9).toNat - 0x80 ∧
        t.fsm = .done ∧ t.result = 1) ∧
      (¬StagedLast s → t.lastSeen = s.lastSeen ∧ t.expCnt = s.expCnt ∧ t.fsm = .listen ∧
        t.result = 0) ∧
      s.sameTx t ∧ s.sameStaging t ∧ s.sameAddrs t ∧ s.sameAcc t ∧ s.sameError t ∧ s.sameSticky t ∧
      s.sameDrops t ∧ s.sameOwn t

/-- R109, read from RESULT and the counters: the order of PUSH's checks, each frame counted by the first check it
fails only. PUSH itself raises no command error. -/
def Obligations.PushCheckOrderAndOutcome : Prop :=
  ∀ (s : State), ∃ t, exec .push s = .next t ∧ s.sameError t ∧
    (s.fsm ≠ .listen ↔ t.result = 4) ∧
    (s.fsm = .listen ∧ ¬StagedAddressPasses s ↔ t.result = 2) ∧
    (s.fsm = .listen ∧ StagedAddressPasses s ∧ s.q.length = s.cfg.queueDepth ↔ t.result = 3) ∧
    (s.fsm = .listen ∧ StagedAddressPasses s ∧ s.q.length ≠ s.cfg.queueDepth ∧ StagedLast s ↔
      t.result = 1) ∧
    (s.fsm = .listen ∧ StagedAddressPasses s ∧ s.q.length ≠ s.cfg.queueDepth ∧ ¬StagedLast s ↔
      t.result = 0) ∧
    (t.result ≠ 4 → t.ignCnt = s.ignCnt) ∧ (t.result ≠ 2 → t.foreignCnt = s.foreignCnt) ∧
    (t.result ≠ 3 → t.ovfCnt = s.ovfCnt) ∧
    ∀ v : Word, bits v 3 0 = 7 → bits v 31 4 ≠ 0 → runCommand v s = .next (s.raise .reserved v)

/-- R48, R49: what each counter counts: by an increment that saturates at 255, by which PUSHes; ARM and reset clear
them, and no other command and no other bus transaction changes them. -/
def Obligations.CountersCount : Prop :=
  ∀ (s : State),
    (∃ t, exec .push s = .next t ∧
      (s.fsm ≠ .listen → t.ignCnt.toNat = min (s.ignCnt.toNat + 1) 255) ∧
      (s.fsm = .listen → t.ignCnt = s.ignCnt) ∧
      (s.fsm = .listen → ¬StagedAddressPasses s →
        t.foreignCnt.toNat = min (s.foreignCnt.toNat + 1) 255) ∧
      (s.fsm ≠ .listen ∨ StagedAddressPasses s → t.foreignCnt = s.foreignCnt) ∧
      (s.fsm = .listen → StagedAddressPasses s → s.q.length = s.cfg.queueDepth →
        t.ovfCnt.toNat = min (s.ovfCnt.toNat + 1) 255) ∧
      (s.fsm ≠ .listen ∨ ¬StagedAddressPasses s ∨ s.q.length ≠ s.cfg.queueDepth →
        t.ovfCnt = s.ovfCnt) ∧
      (t.q.length = s.q.length + 1 → t.framesRx.toNat = min (s.framesRx.toNat + 1) 255) ∧
      (t.q = s.q → t.framesRx = s.framesRx)) ∧
    (∀ i : Instr, i ≠ .push → i ≠ .arm → ∃ t, exec i s = .next t ∧ s.sameDrops t ∧
      t.framesRx = s.framesRx) ∧
    (∀ (a : HostAction) (t : State), perform a s = .next t → a ≠ .reset →
      (∀ v, a ≠ .write allLanes 0x000 v) → s.sameDrops t ∧ t.framesRx = s.framesRx) ∧
    ∀ a : HostAction, a = .reset ∨ a = .write allLanes 0x000 0x00000005 →
      ∃ t, perform a s = .next t ∧ t.foreignCnt = 0 ∧ t.ovfCnt = 0 ∧ t.ignCnt = 0 ∧ t.framesRx = 0

/-! ## ARM, DISARM, POP, FLUSH -/

/-- R117: ARM listens with the marker and counters cleared and changes nothing else; RESERVED from
decoding. -/
def Obligations.ArmStartsAttempt : Prop :=
  ∀ (s : State),
    (∃ t, exec .arm s = .next t ∧ t.fsm = .listen ∧ t.lastSeen = false ∧ t.expCnt = 0 ∧
      t.framesRx = 0 ∧ t.foreignCnt = 0 ∧ t.ovfCnt = 0 ∧ t.ignCnt = 0 ∧
      s.sameTx t ∧ s.sameStaging t ∧ s.sameAddrs t ∧ s.sameAcc t ∧ s.sameResult t ∧ s.sameError t ∧
      s.sameSticky t ∧ s.sameQueue t ∧ s.sameOwn t ∧ (reasmWord t).toNat = 1) ∧
    ∀ v : Word, bits v 3 0 = 5 → bits v 31 4 ≠ 0 → runCommand v s = .next (s.raise .reserved v)

/-- R118: DISARM moves FSM to IDLE and changes nothing else; RESERVED from decoding. -/
def Obligations.DisarmStopsListening : Prop :=
  ∀ (s : State),
    (∃ t, exec .disarm s = .next t ∧ t.fsm = .idle ∧ t.lastSeen = s.lastSeen ∧
      t.expCnt = s.expCnt ∧ t.framesRx = s.framesRx ∧
      s.sameTx t ∧ s.sameStaging t ∧ s.sameAddrs t ∧ s.sameAcc t ∧ s.sameResult t ∧ s.sameError t ∧
      s.sameSticky t ∧ s.sameDrops t ∧ s.sameQueue t ∧ s.sameOwn t) ∧
    ∀ v : Word, bits v 3 0 = 6 → bits v 31 4 ≠ 0 → runCommand v s = .next (s.raise .reserved v)

/-- R119: POP removes the head and changes nothing else; on an empty queue it raises QUEUE_EMPTY with no
other effect; RESERVED from decoding. -/
def Obligations.PopRemovesHead : Prop :=
  ∀ (s : State),
    (∀ e rest, s.q = e :: rest → ∃ t, exec .pop s = .next t ∧ t.q = rest ∧
      s.sameTx t ∧ s.sameStaging t ∧ s.sameAddrs t ∧ s.sameAcc t ∧ s.sameResult t ∧ s.sameError t ∧
      s.sameSticky t ∧ s.sameAttempt t ∧ s.sameDrops t ∧ s.sameOwn t) ∧
    (s.q = [] → exec .pop s = .next (s.raise .queueEmpty 0x00000008)) ∧
    ∀ v : Word, bits v 3 0 = 8 → bits v 31 4 ≠ 0 → runCommand v s = .next (s.raise .reserved v)

/-- R120: FLUSH empties the queue and changes nothing else; RESERVED from decoding. -/
def Obligations.FlushEmptiesQueue : Prop :=
  ∀ (s : State),
    (∃ t, exec .flush s = .next t ∧ t.q = [] ∧ qstatWord t = 0x00080000 ∧
      s.sameTx t ∧ s.sameStaging t ∧ s.sameAddrs t ∧ s.sameAcc t ∧ s.sameResult t ∧ s.sameError t ∧
      s.sameSticky t ∧ s.sameAttempt t ∧ s.sameDrops t ∧ s.sameOwn t) ∧
    ∀ v : Word, bits v 3 0 = 9 → bits v 31 4 ≠ 0 → runCommand v s = .next (s.raise .reserved v)

/-! ## The state machine and rules over all commands -/

/-- R107: FSM's transitions; a command not listed, an erroneous command and any other bus transaction leave it
unchanged. -/
def Obligations.FsmTransitions : Prop :=
  (∀ s : State, ∃ t, perform .reset s = .next t ∧ t.fsm = .idle) ∧
  (∀ (s : State) (v : Word) (c : CmdError), Raises s v c →
    ∃ t, runCommand v s = .next t ∧ t.fsm = s.fsm) ∧
  (∀ (s t : State) (a : HostAction), perform a s = .next t → a ≠ .reset →
    (∀ v, a ≠ .write allLanes 0x000 v) → t.fsm = s.fsm) ∧
  ∀ (i : Instr) (s : State), ∃ t, exec i s = .next t ∧
    (i = .arm → t.fsm = .listen) ∧ (i = .disarm → t.fsm = .idle) ∧
    (i = .push → s.fsm = .listen →
      (t.fsm = .done ∧ ∃ e, t.q = s.q ++ [e] ∧ e.last = true) ∨
      (t.fsm = .listen ∧ (t.q = s.q ∨ ∃ e, t.q = s.q ++ [e] ∧ e.last = false))) ∧
    (i = .push → s.fsm ≠ .listen → t.fsm = s.fsm) ∧
    (i ≠ .arm → i ≠ .disarm → i ≠ .push → t.fsm = s.fsm)

/-- R41: a host action changes Q only by a PUSH's append at the tail, a POP's removal of the head, a FLUSH or a
reset, and Q stays within QUEUE_DEPTH. -/
def Obligations.QueueChangesOnlyByItsCommands : Prop :=
  ∀ (s t : State) (a : HostAction), perform a s = .next t →
    (s.q.length ≤ s.cfg.queueDepth → t.q.length ≤ t.cfg.queueDepth) ∧
    (t.q = s.q ∨
    (a = .write allLanes 0x000 0x00000007 ∧ s.fsm = .listen ∧ ∃ e, t.q = s.q ++ [e]) ∨
    (a = .write allLanes 0x000 0x00000008 ∧ ∃ e, s.q = e :: t.q) ∨
    (a = .write allLanes 0x000 0x00000009 ∧ t.q = []) ∨
    (a = .reset ∧ t.q = []))

/-- R122: an entry that was not in Q before came by a PUSH and shows the address INV_ADDR had then; a
later write of INV_ADDR leaves Q as it is. -/
def Obligations.ForeignFrameIsNeverQueued : Prop :=
  (∀ (s t : State) (a : HostAction), perform a s = .next t → ∀ e ∈ t.q,
    e ∈ s.q ∨ (a = .write allLanes 0x000 0x00000007 ∧ s.fsm = .listen ∧ 5 ≤ e.n ∧
      (e.data[1]?.getD 0).toNat = bits s.invAddr 31 24 ∧
      (e.data[2]?.getD 0).toNat = bits s.invAddr 23 16 ∧
      (e.data[3]?.getD 0).toNat = bits s.invAddr 15 8 ∧
      (e.data[4]?.getD 0).toNat = bits s.invAddr 7 0)) ∧
  ∀ (s : State) (v : Word), ∃ t, perform (.write allLanes 0x010 v) s = .next t ∧ t.q = s.q

/-- R27: only FIN, CRC8, CRC16 and PUSH write RESULT, and not when they raise an error. -/
def Obligations.ResultWrittenOnlyByNamedCommands : Prop :=
  ∀ (i : Instr) (s : State), ∃ t, exec i s = .next t ∧
    (i = .nop ∨ (∃ a b, i = .hdr a b) ∨ i = .arm ∨ i = .disarm ∨ i = .pop ∨ i = .flush ∨
      (∃ c, ownError s i = some c) → t.result = s.result)

/-- R43, and R29 to R31 and R33, R34 for the registers no command writes: a command changes none of RXBUF, RX_LEN,
RX_META, INV_ADDR and STN_ADDR, and only CRC16 changes CRC16_ACC. -/
def Obligations.CommandsKeepHostRegisters : Prop :=
  ∀ (s : State) (v : Word), ∃ t, runCommand v s = .next t ∧ s.sameStaging t ∧ s.sameAddrs t ∧
    (bits v 3 0 ≠ 4 → s.sameAcc t) ∧ s.sameOwn t

/-- R46, R47: LAST_SEEN, once set, stays with its EXP_CNT until an ARM or a reset. -/
def Obligations.LastSeenStaysUntilArmOrReset : Prop :=
  ∀ (s t : State) (a : HostAction), s.Inv → perform a s = .next t → s.lastSeen = true →
    (t.lastSeen = true ∧ t.expCnt = s.expCnt) ∨
    ((a = .reset ∨ a = .write allLanes 0x000 0x00000005) ∧ t.lastSeen = false ∧ t.expCnt = 0)

/-- R50: OVF_ST and IGN_ST are set only by a PUSH that meets a full queue or is ignored, and once set are cleared only
by writing 1 to their STATUS bit or by reset; ARM does not clear them. -/
def Obligations.StickyBitsStayUntilCleared : Prop :=
  (∀ (s t : State) (a : HostAction), perform a s = .next t →
    (s.ovfSt = false → t.ovfSt = true → a = .write allLanes 0x000 0x00000007 ∧ s.fsm = .listen ∧
      StagedAddressPasses s ∧ s.q.length = s.cfg.queueDepth) ∧
    (s.ignSt = false → t.ignSt = true → a = .write allLanes 0x000 0x00000007 ∧ s.fsm ≠ .listen) ∧
    (s.ovfSt = true → t.ovfSt = false →
      a = .reset ∨ ∃ v, a = .write allLanes 0x004 v ∧ bits v 1 1 = 1) ∧
    (s.ignSt = true → t.ignSt = false →
      a = .reset ∨ ∃ v, a = .write allLanes 0x004 v ∧ bits v 2 2 = 1)) ∧
  (∀ s : State, ∃ t, exec .push s = .next t ∧ (s.fsm ≠ .listen → t.ignSt = true) ∧
    (s.fsm = .listen → StagedAddressPasses s → s.q.length = s.cfg.queueDepth → t.ovfSt = true)) ∧
  ∀ s : State, ∃ t, perform .reset s = .next t ∧ t.ovfSt = false ∧ t.ignSt = false

/-- R121: after ARM, a response of N frames whose first N - 1 carry no frame index above 0x80 (a frame of fewer than
10 bytes carries none, R115) and whose N-th carries 0x80 + N completes with the N-th PUSH and not before, when all
pass the address check and none meets a full queue. -/
def Obligations.CompletionAfterExactlyNPushes : Prop :=
  ∀ (s : State) (frames : List ArrivingFrame) (lastFrame : ArrivingFrame) (N : Nat),
    N = frames.length + 1 → N ≤ 127 → s.q.length + N ≤ s.cfg.queueDepth →
    (∀ f ∈ frames ++ [lastFrame], StagedAddressPasses (stageFrame s f)) →
    (∀ f ∈ frames, 10 ≤ f.len.toNat → (readByte f.bytes 9).toNat ≤ 0x80) →
    (readByte lastFrame.bytes 9).toNat = 0x80 + N → 10 ≤ lastFrame.len.toNat →
    ∃ a, exec .arm s = .next a ∧
      (∀ k, k < N → ∃ t, pushFrames (frames.take k) a = .next t ∧ t.lastSeen = false ∧
        t.fsm = .listen ∧ t.framesRx.toNat = k) ∧
      ∃ t, pushFrames (frames ++ [lastFrame]) a = .next t ∧ t.lastSeen = true ∧ t.expCnt.toNat = N ∧
        t.framesRx.toNat = N ∧ t.fsm = .done ∧ t.q.length = s.q.length + N

/-! ## The bus and the registers -/

/-- R54, R67, R138: one step performs the host's next action, in full and no other, and the rest of the list is still
to come; with no action the state persists. The list of actions is the model's own form of the host's issue
order (log 1). -/
def Obligations.StepTakesActionsInOrder : Prop :=
  (∀ s : State, s.pending = [] → step s = .next s) ∧
  ∀ (s : State) (a : HostAction) (rest : List HostAction), s.pending = a :: rest →
    step s = perform a (s.setPending rest) ∧ ∀ t, step s = .next t → t.pending = rest

/-- R55 to R57 and "Nothing in this core is fatal": an aligned 32-bit transaction, at any offset, and a reset
always complete, whatever the state. -/
def Obligations.DefinedActionsComplete : Prop :=
  ∀ (s : State) (a : HostAction), a.defined = true → ∃ t, perform a s = .next t

/-- R55: a transaction at an offset that is no multiple of 4, or one that does not use all four byte lanes,
is refused. The refusals' names, and misalignment first where both apply, are the model's choice (log 7). -/
def Obligations.UndefinedAccessesAreRefused : Prop :=
  ∀ (s : State) (lanes : BitVec 4) (off : Nat) (v : Word),
    (off % 4 ≠ 0 → perform (.read lanes off) s = .refused (.misalignedAccess off) ∧
      perform (.write lanes off v) s = .refused (.misalignedAccess off)) ∧
    (off % 4 = 0 → lanes ≠ 0xF → perform (.read lanes off) s = .refused (.partialAccess lanes) ∧
      perform (.write lanes off v) s = .refused (.partialAccess lanes))

/-- R57 beyond R53's map, at an offset that the model's transactions can name (log 8): a Read completes with 0 and
changes nothing of the block, and a Write changes nothing at all. -/
def Obligations.OffsetsBeyondMapReadZero : Prop :=
  ∀ (s : State) (off : Nat) (v : Word), off % 4 = 0 → 0x400 ≤ off →
    perform (.read allLanes off) s = .next (s.setResponses (s.responses ++ [0])) ∧
    perform (.write allLanes off v) s = .next s

/-- R56, R59: a Read returns the register's value and changes nothing of the block, so it may be repeated with the
same result. -/
def Obligations.ReadHasNoSideEffect : Prop :=
  ∀ (s : State) (off : Nat), off % 4 = 0 →
    ∃ t, perform (.read allLanes off) s = .next t ∧
      t.responses = s.responses ++ [readTarget s (target off)] ∧
      s.sameTx t ∧ s.sameStaging t ∧ s.sameAddrs t ∧ s.sameAcc t ∧ s.sameResult t ∧ s.sameError t ∧
      s.sameSticky t ∧ s.sameAttempt t ∧ s.sameDrops t ∧ s.sameQueue t ∧ t.cfg = s.cfg ∧
      t.pending = s.pending ∧ t.resets = s.resets ∧
      readTarget t (target off) = readTarget s (target off)

/-- R57, R58: the address map. Every aligned offset is a named register or a window word, as R58's table lists
it, or unlisted, beyond the map included; an unlisted one reads 0 and ignores writes. -/
def Obligations.AddressMap : Prop :=
  target 0x000 = .reg .cmd ∧ target 0x004 = .reg .status ∧ target 0x008 = .reg .result ∧
  target 0x00C = .reg .errCmd ∧ target 0x010 = .reg .invAddr ∧ target 0x014 = .reg .stnAddr ∧
  target 0x018 = .reg .crc16Acc ∧ target 0x01C = .reg .txLen ∧ target 0x020 = .reg .rxLen ∧
  target 0x024 = .reg .rxMeta ∧ target 0x028 = .reg .reasm ∧ target 0x02C = .reg .diag ∧
  target 0x030 = .reg .qstat ∧ target 0x034 = .reg .qmeta ∧ target 0x038 = .reg .param ∧
  (∀ i, i < 32 → target (0x100 + 4 * i) = .byte .tx i ∧ target (0x200 + 4 * i) = .byte .rx i ∧
    target (0x300 + 4 * i) = .byte .qh i) ∧
  ∀ (off : Nat), off % 4 = 0 → (0x03C ≤ off ∧ off ≤ 0x0FC) ∨ (0x180 ≤ off ∧ off ≤ 0x1FC) ∨
      (0x280 ≤ off ∧ off ≤ 0x2FC) ∨ 0x380 ≤ off →
    target off = .unmapped ∧ ∀ (s : State) (v : Word), readTarget s (target off) = 0 ∧
      perform (.write allLanes off v) s = .next s

/-- R26: STATUS's fields, its reset value, what sets ERR, OVF and IGN, and what a write of v clears. -/
def Obligations.StatusRegister : Prop :=
  statusWord State.reset = 0 ∧
  ∀ (s : State),
    readTarget s (target 0x004) = statusWord s ∧
    bits (statusWord s) 0 0 = s.err.toNat ∧ bits (statusWord s) 1 1 = s.ovfSt.toNat ∧
    bits (statusWord s) 2 2 = s.ignSt.toNat ∧ bits (statusWord s) 3 3 = 0 ∧
    bits (statusWord s) 7 4 = s.errCode.toNat ∧ bits (statusWord s) 31 8 = 0 ∧
    (s.Inv → s.err = false → bits (statusWord s) 7 4 = 0) ∧
    (∀ (c : CmdError) (w : Word), bits (statusWord (s.raise c w)) 0 0 = 1 ∧
      bits (statusWord (s.raise c w)) 7 4 = if s.err = true then s.errCode.toNat else c.code.toNat) ∧
    (∃ t, exec .push s = .next t ∧
      (s.fsm = .listen → StagedAddressPasses s → s.q.length = s.cfg.queueDepth →
        bits (statusWord t) 1 1 = 1) ∧
      (s.fsm ≠ .listen → bits (statusWord t) 2 2 = 1)) ∧
    ∀ v : Word, ∃ t, perform (.write allLanes 0x004 v) s = .next t ∧
      (bits v 0 0 = 1 → t.err = false ∧ t.errCode = 0 ∧ t.errCmd = 0) ∧
      (bits v 0 0 = 0 → s.sameError t) ∧
      t.ovfSt = (if bits v 1 1 = 1 then false else s.ovfSt) ∧
      t.ignSt = (if bits v 2 2 = 1 then false else s.ignSt) ∧
      s.sameTx t ∧ s.sameStaging t ∧ s.sameAddrs t ∧ s.sameAcc t ∧ s.sameResult t ∧
      s.sameAttempt t ∧ s.sameDrops t ∧ s.sameQueue t ∧ s.sameOwn t

/-- R35, R36: the fields of REASM and DIAG, their reset values, and that writes are ignored. -/
def Obligations.ReasmAndDiagRegisters : Prop :=
  reasmWord State.reset = 0 ∧ diagWord State.reset = 0 ∧
  ∀ (s : State),
    readTarget s (target 0x028) = reasmWord s ∧ readTarget s (target 0x02C) = diagWord s ∧
    (s.fsm = .idle → bits (reasmWord s) 1 0 = 0) ∧ (s.fsm = .listen → bits (reasmWord s) 1 0 = 1) ∧
    (s.fsm = .done → bits (reasmWord s) 1 0 = 2) ∧
    bits (reasmWord s) 2 2 = s.lastSeen.toNat ∧ bits (reasmWord s) 7 3 = 0 ∧
    bits (reasmWord s) 15 8 = s.expCnt.toNat ∧ bits (reasmWord s) 15 15 = 0 ∧
    bits (reasmWord s) 23 16 = s.framesRx.toNat ∧ bits (reasmWord s) 31 24 = 0 ∧
    bits (diagWord s) 7 0 = s.foreignCnt.toNat ∧ bits (diagWord s) 15 8 = s.ovfCnt.toNat ∧
    bits (diagWord s) 23 16 = s.ignCnt.toNat ∧ bits (diagWord s) 31 24 = 0 ∧
    ∀ v : Word, perform (.write allLanes 0x028 v) s = .next s ∧
      perform (.write allLanes 0x02C v) s = .next s

/-- R37, R38 (and R44): what QSTAT, QMETA and the QHEAD window show, in a state that meets the invariant, the
reset values, and that writes are ignored. -/
def Obligations.QueueRegisters : Prop :=
  qstatWord State.reset = 0x00080000 ∧ qmetaWord State.reset = 0 ∧
  (∀ (s : State) (v : Word), perform (.write allLanes 0x030 v) s = .next s ∧
    perform (.write allLanes 0x034 v) s = .next s) ∧
  ∀ (s : State), s.Inv →
    (s.q = [] → readTarget s (target 0x030) = 0x00080000 ∧ readTarget s (target 0x034) = 0 ∧
      ∀ i, i < 32 → readTarget s (target (0x300 + 4 * i)) = 0) ∧
    (∀ e rest, s.q = e :: rest →
      ∃ w, readTarget s (target 0x030) = w ∧
        bits w 7 0 = s.q.length ∧ bits w 15 8 = e.n ∧ bits w 16 16 = e.trunc.toNat ∧
        bits w 17 17 = e.crc8ok.toNat ∧ bits w 18 18 = e.last.toNat ∧ bits w 19 19 = 0 ∧
        (bits w 20 20 = 1 ↔ s.q.length = s.cfg.queueDepth) ∧ bits w 23 21 = 0 ∧
        bits w 31 24 = e.inlen.toNat ∧
        readTarget s (target 0x034) = e.metaWord ∧
        ∀ i, i < 32 → readTarget s (target (0x300 + 4 * i)) =
          if h : i < e.n then (e.data[i]).setWidth 32 else 0)

/-- R27 to R34: what the plain registers read, and which bits a write of the RW ones takes, with nothing else
changed; R24: a write of an RO register is ignored. -/
def Obligations.PlainRegisters : Prop :=
  ∀ (s : State) (v : Word),
    readTarget s (target 0x000) = 0 ∧ readTarget s (target 0x008) = s.result ∧
    readTarget s (target 0x00C) = s.errCmd ∧ readTarget s (target 0x010) = s.invAddr ∧
    readTarget s (target 0x014) = s.stnAddr ∧
    (readTarget s (target 0x018)).toNat = s.crc16Acc.toNat ∧
    (readTarget s (target 0x01C)).toNat = s.txLen.toNat ∧
    (readTarget s (target 0x020)).toNat = s.rxLen.toNat ∧
    readTarget s (target 0x024) = s.rxMeta ∧
    perform (.write allLanes 0x010 v) s = .next { s with invAddr := v } ∧
    perform (.write allLanes 0x014 v) s = .next { s with stnAddr := v } ∧
    perform (.write allLanes 0x018 v) s =
      .next { s with crc16Acc := BitVec.ofNat 16 (bits v 15 0) } ∧
    perform (.write allLanes 0x020 v) s = .next { s with rxLen := BitVec.ofNat 8 (bits v 7 0) } ∧
    perform (.write allLanes 0x024 v) s = .next { s with rxMeta := v } ∧
    ∀ off ∈ [0x008, 0x00C, 0x01C, 0x028, 0x02C, 0x030, 0x034, 0x038],
      perform (.write allLanes off v) s = .next s

/-- R60: each window word is one buffer byte: reads zero-extend it, a write of TXBUF or RXBUF takes bits 7:0 and changes
that byte alone, and the QHEAD window ignores writes. -/
def Obligations.ByteWindows : Prop :=
  ∀ (s : State) (v : Word) (i : Nat), i < 32 →
    (readTarget s (target (0x100 + 4 * i))).toNat = (readByte s.txBuf i).toNat ∧
    (readTarget s (target (0x200 + 4 * i))).toNat = (readByte s.rxBuf i).toNat ∧
    (readTarget s (target (0x300 + 4 * i))).toNat = (queueHeadByte s i).toNat ∧
    (∃ t, perform (.write allLanes (0x100 + 4 * i) v) s = .next t ∧
      (readByte t.txBuf i).toNat = bits v 7 0 ∧
      (∀ j, j ≠ i → readByte t.txBuf j = readByte s.txBuf j) ∧ t.txLen = s.txLen ∧
      s.sameStaging t ∧ s.sameAddrs t ∧ s.sameAcc t ∧ s.sameResult t ∧ s.sameError t ∧
      s.sameSticky t ∧ s.sameAttempt t ∧ s.sameDrops t ∧ s.sameQueue t ∧ s.sameOwn t) ∧
    (∃ t, perform (.write allLanes (0x200 + 4 * i) v) s = .next t ∧
      (readByte t.rxBuf i).toNat = bits v 7 0 ∧
      (∀ j, j ≠ i → readByte t.rxBuf j = readByte s.rxBuf j) ∧ t.rxLen = s.rxLen ∧
      t.rxMeta = s.rxMeta ∧
      s.sameTx t ∧ s.sameAddrs t ∧ s.sameAcc t ∧ s.sameResult t ∧ s.sameError t ∧
      s.sameSticky t ∧ s.sameAttempt t ∧ s.sameDrops t ∧ s.sameQueue t ∧ s.sameOwn t) ∧
    perform (.write allLanes (0x300 + 4 * i) v) s = .next s

/-- R59: a write of any register or window other than CMD is idempotent. -/
def Obligations.WritesAreIdempotent : Prop :=
  ∀ (s t : State) (off : Nat) (v : Word), off ≠ 0x000 →
    perform (.write allLanes off v) s = .next t → perform (.write allLanes off v) t = .next t

/-- R39, R21: no step changes the configuration, so PARAM reads the same at all times: MAX_LEN, QUEUE_DEPTH and
VERSION. -/
def Obligations.ConfigurationIsFixed : Prop :=
  (∀ (s t : State), step s = .next t →
    t.cfg = s.cfg ∧ readTarget t (target 0x038) = readTarget s (target 0x038)) ∧
  ∀ s : State, s.cfg.wf = true →
    ∃ w, readTarget s (target 0x038) = w ∧ bits w 7 0 = 32 ∧ bits w 15 8 = s.cfg.queueDepth ∧
      bits w 23 16 = 0x01 ∧ bits w 31 24 = 0 ∧
      ∀ v : Word, perform (.write allLanes 0x038 v) s = .next s

/-- R140: from any state a host reaches the reset value of every element but TXBUF and RXBUF by commands and
writes. -/
def Obligations.HostReachesResetValues : Prop :=
  ∀ (s : State), s.cfg.crc16Init = 0xFFFF → s.cfg.crc8Init = 0 →
    ∃ t, performAll
        [.write allLanes 0x000 (encode .flush), .write allLanes 0x000 (encode .arm),
         .write allLanes 0x000 (encode .disarm), .write allLanes 0x004 0x7,
         .write allLanes 0x018 0xFFFF, .write allLanes 0x010 0, .write allLanes 0x014 0,
         .write allLanes 0x020 0, .write allLanes 0x024 0, .write allLanes 0x000 (encode (.hdr 0 0)),
         .write allLanes 0x000 (encode (.crc8 .tx 0 0))] s = .next t ∧
      ∃ u, perform .reset s = .next u ∧ t.setTx u.txBuf u.txLen =
        { u with rxBuf := s.rxBuf, resets := s.resets } ∧ t.txLen = u.txLen

/-- R90: what CLR and RESTART do to any state. -/
def Obligations.ClrAndRestart : Prop :=
  ∀ (s : State),
    (∃ as t, expand .clr = some as ∧ performAll as s = .next t ∧ statusWord t = 0 ∧ t.errCmd = 0 ∧
      s.sameQueue t ∧ s.sameAttempt t ∧ s.sameResult t) ∧
    ∃ as t, expand .restart = some as ∧ performAll as s = .next t ∧ t.q = [] ∧ t.fsm = .listen ∧
      t.lastSeen = false ∧ t.framesRx = 0 ∧ s.sameError t ∧ s.sameSticky t

/-- R90: what STAGE leaves in the block: the first min(n, MAX_LEN) bytes in RXBUF, the rest of RXBUF as it was, RX_LEN
and RX_META, and nothing else changed. -/
def Obligations.StageLoadsFrame : Prop :=
  ∀ (s : State) (n m : Word) (bytes : List Byte), n.toNat < 256 →
    bytes.length = min n.toNat 32 →
    ∃ as t, expand (.stage n m bytes) = some as ∧ performAll as s = .next t ∧
      (∀ i, i < bytes.length → bytes[i]? = some (readByte t.rxBuf i)) ∧
      (∀ i, bytes.length ≤ i → readByte t.rxBuf i = readByte s.rxBuf i) ∧
      t.rxLen.toNat = n.toNat ∧ t.rxMeta = m ∧
      s.sameTx t ∧ s.sameAddrs t ∧ s.sameAcc t ∧ s.sameResult t ∧ s.sameError t ∧ s.sameSticky t ∧
      s.sameAttempt t ∧ s.sameDrops t ∧ s.sameQueue t ∧ s.sameOwn t

/-! ## The invariant -/

/-- The invariant holds after reset. Its clause on the configuration rests on State.reset's
QUEUE_DEPTH, the model's choice (log 4). -/
def Obligations.ResetMeetsInvariant : Prop := State.reset.Inv

/-- R40, R41, R45 to R47, R122, R123, R126: every step keeps the invariant: the queue within QUEUE_DEPTH, each entry as
its PUSH made it, the error record empty or with a code of R126, and LAST_SEEN, EXP_CNT and FSM in agreement. -/
def Obligations.StepKeepsInvariant : Prop :=
  ∀ (s t : State), s.Inv → step s = .next t → t.Inv
end

