-- ==== Sys2Proof/Laws/State.lean ====
section
/-! SUPPORT. One lemma per field per named update of State, so that no proof unfolds a record update. -/

namespace Sys2Proof.Machine.State

@[simp] theorem setTx_txBuf (s : State) (b : Buffer) (n : BitVec 8) : (s.setTx b n).txBuf = b := rfl
@[simp] theorem setTx_txLen (s : State) (b : Buffer) (n : BitVec 8) : (s.setTx b n).txLen = n := rfl
@[simp] theorem setTx_rxBuf (s : State) (b : Buffer) (n : BitVec 8) :
    (s.setTx b n).rxBuf = s.rxBuf := rfl
@[simp] theorem setTx_rxLen (s : State) (b : Buffer) (n : BitVec 8) :
    (s.setTx b n).rxLen = s.rxLen := rfl
@[simp] theorem setTx_rxMeta (s : State) (b : Buffer) (n : BitVec 8) :
    (s.setTx b n).rxMeta = s.rxMeta := rfl
@[simp] theorem setTx_invAddr (s : State) (b : Buffer) (n : BitVec 8) :
    (s.setTx b n).invAddr = s.invAddr := rfl
@[simp] theorem setTx_stnAddr (s : State) (b : Buffer) (n : BitVec 8) :
    (s.setTx b n).stnAddr = s.stnAddr := rfl
@[simp] theorem setTx_crc16Acc (s : State) (b : Buffer) (n : BitVec 8) :
    (s.setTx b n).crc16Acc = s.crc16Acc := rfl
@[simp] theorem setTx_result (s : State) (b : Buffer) (n : BitVec 8) :
    (s.setTx b n).result = s.result := rfl
@[simp] theorem setTx_err (s : State) (b : Buffer) (n : BitVec 8) : (s.setTx b n).err = s.err := rfl
@[simp] theorem setTx_errCode (s : State) (b : Buffer) (n : BitVec 8) :
    (s.setTx b n).errCode = s.errCode := rfl
@[simp] theorem setTx_errCmd (s : State) (b : Buffer) (n : BitVec 8) :
    (s.setTx b n).errCmd = s.errCmd := rfl
@[simp] theorem setTx_ovfSt (s : State) (b : Buffer) (n : BitVec 8) :
    (s.setTx b n).ovfSt = s.ovfSt := rfl
@[simp] theorem setTx_ignSt (s : State) (b : Buffer) (n : BitVec 8) :
    (s.setTx b n).ignSt = s.ignSt := rfl
@[simp] theorem setTx_fsm (s : State) (b : Buffer) (n : BitVec 8) : (s.setTx b n).fsm = s.fsm := rfl
@[simp] theorem setTx_lastSeen (s : State) (b : Buffer) (n : BitVec 8) :
    (s.setTx b n).lastSeen = s.lastSeen := rfl
@[simp] theorem setTx_expCnt (s : State) (b : Buffer) (n : BitVec 8) :
    (s.setTx b n).expCnt = s.expCnt := rfl
@[simp] theorem setTx_framesRx (s : State) (b : Buffer) (n : BitVec 8) :
    (s.setTx b n).framesRx = s.framesRx := rfl
@[simp] theorem setTx_foreignCnt (s : State) (b : Buffer) (n : BitVec 8) :
    (s.setTx b n).foreignCnt = s.foreignCnt := rfl
@[simp] theorem setTx_ovfCnt (s : State) (b : Buffer) (n : BitVec 8) :
    (s.setTx b n).ovfCnt = s.ovfCnt := rfl
@[simp] theorem setTx_ignCnt (s : State) (b : Buffer) (n : BitVec 8) :
    (s.setTx b n).ignCnt = s.ignCnt := rfl
@[simp] theorem setTx_q (s : State) (b : Buffer) (n : BitVec 8) : (s.setTx b n).q = s.q := rfl
@[simp] theorem setTx_cfg (s : State) (b : Buffer) (n : BitVec 8) : (s.setTx b n).cfg = s.cfg := rfl
@[simp] theorem setTx_pending (s : State) (b : Buffer) (n : BitVec 8) :
    (s.setTx b n).pending = s.pending := rfl
@[simp] theorem setTx_responses (s : State) (b : Buffer) (n : BitVec 8) :
    (s.setTx b n).responses = s.responses := rfl
@[simp] theorem setTx_resets (s : State) (b : Buffer) (n : BitVec 8) :
    (s.setTx b n).resets = s.resets := rfl

@[simp] theorem setStaging_txBuf (s : State) (b : Buffer) (n : BitVec 8) (m : Word) :
    (s.setStaging b n m).txBuf = s.txBuf := rfl
@[simp] theorem setStaging_txLen (s : State) (b : Buffer) (n : BitVec 8) (m : Word) :
    (s.setStaging b n m).txLen = s.txLen := rfl
@[simp] theorem setStaging_rxBuf (s : State) (b : Buffer) (n : BitVec 8) (m : Word) :
    (s.setStaging b n m).rxBuf = b := rfl
@[simp] theorem setStaging_rxLen (s : State) (b : Buffer) (n : BitVec 8) (m : Word) :
    (s.setStaging b n m).rxLen = n := rfl
@[simp] theorem setStaging_rxMeta (s : State) (b : Buffer) (n : BitVec 8) (m : Word) :
    (s.setStaging b n m).rxMeta = m := rfl
@[simp] theorem setStaging_invAddr (s : State) (b : Buffer) (n : BitVec 8) (m : Word) :
    (s.setStaging b n m).invAddr = s.invAddr := rfl
@[simp] theorem setStaging_stnAddr (s : State) (b : Buffer) (n : BitVec 8) (m : Word) :
    (s.setStaging b n m).stnAddr = s.stnAddr := rfl
@[simp] theorem setStaging_crc16Acc (s : State) (b : Buffer) (n : BitVec 8) (m : Word) :
    (s.setStaging b n m).crc16Acc = s.crc16Acc := rfl
@[simp] theorem setStaging_result (s : State) (b : Buffer) (n : BitVec 8) (m : Word) :
    (s.setStaging b n m).result = s.result := rfl
@[simp] theorem setStaging_err (s : State) (b : Buffer) (n : BitVec 8) (m : Word) :
    (s.setStaging b n m).err = s.err := rfl
@[simp] theorem setStaging_errCode (s : State) (b : Buffer) (n : BitVec 8) (m : Word) :
    (s.setStaging b n m).errCode = s.errCode := rfl
@[simp] theorem setStaging_errCmd (s : State) (b : Buffer) (n : BitVec 8) (m : Word) :
    (s.setStaging b n m).errCmd = s.errCmd := rfl
@[simp] theorem setStaging_ovfSt (s : State) (b : Buffer) (n : BitVec 8) (m : Word) :
    (s.setStaging b n m).ovfSt = s.ovfSt := rfl
@[simp] theorem setStaging_ignSt (s : State) (b : Buffer) (n : BitVec 8) (m : Word) :
    (s.setStaging b n m).ignSt = s.ignSt := rfl
@[simp] theorem setStaging_fsm (s : State) (b : Buffer) (n : BitVec 8) (m : Word) :
    (s.setStaging b n m).fsm = s.fsm := rfl
@[simp] theorem setStaging_lastSeen (s : State) (b : Buffer) (n : BitVec 8) (m : Word) :
    (s.setStaging b n m).lastSeen = s.lastSeen := rfl
@[simp] theorem setStaging_expCnt (s : State) (b : Buffer) (n : BitVec 8) (m : Word) :
    (s.setStaging b n m).expCnt = s.expCnt := rfl
@[simp] theorem setStaging_framesRx (s : State) (b : Buffer) (n : BitVec 8) (m : Word) :
    (s.setStaging b n m).framesRx = s.framesRx := rfl
@[simp] theorem setStaging_foreignCnt (s : State) (b : Buffer) (n : BitVec 8) (m : Word) :
    (s.setStaging b n m).foreignCnt = s.foreignCnt := rfl
@[simp] theorem setStaging_ovfCnt (s : State) (b : Buffer) (n : BitVec 8) (m : Word) :
    (s.setStaging b n m).ovfCnt = s.ovfCnt := rfl
@[simp] theorem setStaging_ignCnt (s : State) (b : Buffer) (n : BitVec 8) (m : Word) :
    (s.setStaging b n m).ignCnt = s.ignCnt := rfl
@[simp] theorem setStaging_q (s : State) (b : Buffer) (n : BitVec 8) (m : Word) :
    (s.setStaging b n m).q = s.q := rfl
@[simp] theorem setStaging_cfg (s : State) (b : Buffer) (n : BitVec 8) (m : Word) :
    (s.setStaging b n m).cfg = s.cfg := rfl
@[simp] theorem setStaging_pending (s : State) (b : Buffer) (n : BitVec 8) (m : Word) :
    (s.setStaging b n m).pending = s.pending := rfl
@[simp] theorem setStaging_responses (s : State) (b : Buffer) (n : BitVec 8) (m : Word) :
    (s.setStaging b n m).responses = s.responses := rfl
@[simp] theorem setStaging_resets (s : State) (b : Buffer) (n : BitVec 8) (m : Word) :
    (s.setStaging b n m).resets = s.resets := rfl

@[simp] theorem setAddrs_txBuf (s : State) (i n : Word) : (s.setAddrs i n).txBuf = s.txBuf := rfl
@[simp] theorem setAddrs_txLen (s : State) (i n : Word) : (s.setAddrs i n).txLen = s.txLen := rfl
@[simp] theorem setAddrs_rxBuf (s : State) (i n : Word) : (s.setAddrs i n).rxBuf = s.rxBuf := rfl
@[simp] theorem setAddrs_rxLen (s : State) (i n : Word) : (s.setAddrs i n).rxLen = s.rxLen := rfl
@[simp] theorem setAddrs_rxMeta (s : State) (i n : Word) : (s.setAddrs i n).rxMeta = s.rxMeta := rfl
@[simp] theorem setAddrs_invAddr (s : State) (i n : Word) : (s.setAddrs i n).invAddr = i := rfl
@[simp] theorem setAddrs_stnAddr (s : State) (i n : Word) : (s.setAddrs i n).stnAddr = n := rfl
@[simp] theorem setAddrs_crc16Acc (s : State) (i n : Word) :
    (s.setAddrs i n).crc16Acc = s.crc16Acc := rfl
@[simp] theorem setAddrs_result (s : State) (i n : Word) : (s.setAddrs i n).result = s.result := rfl
@[simp] theorem setAddrs_err (s : State) (i n : Word) : (s.setAddrs i n).err = s.err := rfl
@[simp] theorem setAddrs_errCode (s : State) (i n : Word) :
    (s.setAddrs i n).errCode = s.errCode := rfl
@[simp] theorem setAddrs_errCmd (s : State) (i n : Word) : (s.setAddrs i n).errCmd = s.errCmd := rfl
@[simp] theorem setAddrs_ovfSt (s : State) (i n : Word) : (s.setAddrs i n).ovfSt = s.ovfSt := rfl
@[simp] theorem setAddrs_ignSt (s : State) (i n : Word) : (s.setAddrs i n).ignSt = s.ignSt := rfl
@[simp] theorem setAddrs_fsm (s : State) (i n : Word) : (s.setAddrs i n).fsm = s.fsm := rfl
@[simp] theorem setAddrs_lastSeen (s : State) (i n : Word) :
    (s.setAddrs i n).lastSeen = s.lastSeen := rfl
@[simp] theorem setAddrs_expCnt (s : State) (i n : Word) : (s.setAddrs i n).expCnt = s.expCnt := rfl
@[simp] theorem setAddrs_framesRx (s : State) (i n : Word) :
    (s.setAddrs i n).framesRx = s.framesRx := rfl
@[simp] theorem setAddrs_foreignCnt (s : State) (i n : Word) :
    (s.setAddrs i n).foreignCnt = s.foreignCnt := rfl
@[simp] theorem setAddrs_ovfCnt (s : State) (i n : Word) : (s.setAddrs i n).ovfCnt = s.ovfCnt := rfl
@[simp] theorem setAddrs_ignCnt (s : State) (i n : Word) : (s.setAddrs i n).ignCnt = s.ignCnt := rfl
@[simp] theorem setAddrs_q (s : State) (i n : Word) : (s.setAddrs i n).q = s.q := rfl
@[simp] theorem setAddrs_cfg (s : State) (i n : Word) : (s.setAddrs i n).cfg = s.cfg := rfl
@[simp] theorem setAddrs_pending (s : State) (i n : Word) :
    (s.setAddrs i n).pending = s.pending := rfl
@[simp] theorem setAddrs_responses (s : State) (i n : Word) :
    (s.setAddrs i n).responses = s.responses := rfl
@[simp] theorem setAddrs_resets (s : State) (i n : Word) : (s.setAddrs i n).resets = s.resets := rfl

@[simp] theorem setCrc16Acc_txBuf (s : State) (c : Half) : (s.setCrc16Acc c).txBuf = s.txBuf := rfl
@[simp] theorem setCrc16Acc_txLen (s : State) (c : Half) : (s.setCrc16Acc c).txLen = s.txLen := rfl
@[simp] theorem setCrc16Acc_rxBuf (s : State) (c : Half) : (s.setCrc16Acc c).rxBuf = s.rxBuf := rfl
@[simp] theorem setCrc16Acc_rxLen (s : State) (c : Half) : (s.setCrc16Acc c).rxLen = s.rxLen := rfl
@[simp] theorem setCrc16Acc_rxMeta (s : State) (c : Half) :
    (s.setCrc16Acc c).rxMeta = s.rxMeta := rfl
@[simp] theorem setCrc16Acc_invAddr (s : State) (c : Half) :
    (s.setCrc16Acc c).invAddr = s.invAddr := rfl
@[simp] theorem setCrc16Acc_stnAddr (s : State) (c : Half) :
    (s.setCrc16Acc c).stnAddr = s.stnAddr := rfl
@[simp] theorem setCrc16Acc_crc16Acc (s : State) (c : Half) : (s.setCrc16Acc c).crc16Acc = c := rfl
@[simp] theorem setCrc16Acc_result (s : State) (c : Half) :
    (s.setCrc16Acc c).result = s.result := rfl
@[simp] theorem setCrc16Acc_err (s : State) (c : Half) : (s.setCrc16Acc c).err = s.err := rfl
@[simp] theorem setCrc16Acc_errCode (s : State) (c : Half) :
    (s.setCrc16Acc c).errCode = s.errCode := rfl
@[simp] theorem setCrc16Acc_errCmd (s : State) (c : Half) :
    (s.setCrc16Acc c).errCmd = s.errCmd := rfl
@[simp] theorem setCrc16Acc_ovfSt (s : State) (c : Half) : (s.setCrc16Acc c).ovfSt = s.ovfSt := rfl
@[simp] theorem setCrc16Acc_ignSt (s : State) (c : Half) : (s.setCrc16Acc c).ignSt = s.ignSt := rfl
@[simp] theorem setCrc16Acc_fsm (s : State) (c : Half) : (s.setCrc16Acc c).fsm = s.fsm := rfl
@[simp] theorem setCrc16Acc_lastSeen (s : State) (c : Half) :
    (s.setCrc16Acc c).lastSeen = s.lastSeen := rfl
@[simp] theorem setCrc16Acc_expCnt (s : State) (c : Half) :
    (s.setCrc16Acc c).expCnt = s.expCnt := rfl
@[simp] theorem setCrc16Acc_framesRx (s : State) (c : Half) :
    (s.setCrc16Acc c).framesRx = s.framesRx := rfl
@[simp] theorem setCrc16Acc_foreignCnt (s : State) (c : Half) :
    (s.setCrc16Acc c).foreignCnt = s.foreignCnt := rfl
@[simp] theorem setCrc16Acc_ovfCnt (s : State) (c : Half) :
    (s.setCrc16Acc c).ovfCnt = s.ovfCnt := rfl
@[simp] theorem setCrc16Acc_ignCnt (s : State) (c : Half) :
    (s.setCrc16Acc c).ignCnt = s.ignCnt := rfl
@[simp] theorem setCrc16Acc_q (s : State) (c : Half) : (s.setCrc16Acc c).q = s.q := rfl
@[simp] theorem setCrc16Acc_cfg (s : State) (c : Half) : (s.setCrc16Acc c).cfg = s.cfg := rfl
@[simp] theorem setCrc16Acc_pending (s : State) (c : Half) :
    (s.setCrc16Acc c).pending = s.pending := rfl
@[simp] theorem setCrc16Acc_responses (s : State) (c : Half) :
    (s.setCrc16Acc c).responses = s.responses := rfl
@[simp] theorem setCrc16Acc_resets (s : State) (c : Half) :
    (s.setCrc16Acc c).resets = s.resets := rfl

@[simp] theorem setResult_txBuf (s : State) (v : Word) : (s.setResult v).txBuf = s.txBuf := rfl
@[simp] theorem setResult_txLen (s : State) (v : Word) : (s.setResult v).txLen = s.txLen := rfl
@[simp] theorem setResult_rxBuf (s : State) (v : Word) : (s.setResult v).rxBuf = s.rxBuf := rfl
@[simp] theorem setResult_rxLen (s : State) (v : Word) : (s.setResult v).rxLen = s.rxLen := rfl
@[simp] theorem setResult_rxMeta (s : State) (v : Word) : (s.setResult v).rxMeta = s.rxMeta := rfl
@[simp] theorem setResult_invAddr (s : State) (v : Word) :
    (s.setResult v).invAddr = s.invAddr := rfl
@[simp] theorem setResult_stnAddr (s : State) (v : Word) :
    (s.setResult v).stnAddr = s.stnAddr := rfl
@[simp] theorem setResult_crc16Acc (s : State) (v : Word) :
    (s.setResult v).crc16Acc = s.crc16Acc := rfl
@[simp] theorem setResult_result (s : State) (v : Word) : (s.setResult v).result = v := rfl
@[simp] theorem setResult_err (s : State) (v : Word) : (s.setResult v).err = s.err := rfl
@[simp] theorem setResult_errCode (s : State) (v : Word) :
    (s.setResult v).errCode = s.errCode := rfl
@[simp] theorem setResult_errCmd (s : State) (v : Word) : (s.setResult v).errCmd = s.errCmd := rfl
@[simp] theorem setResult_ovfSt (s : State) (v : Word) : (s.setResult v).ovfSt = s.ovfSt := rfl
@[simp] theorem setResult_ignSt (s : State) (v : Word) : (s.setResult v).ignSt = s.ignSt := rfl
@[simp] theorem setResult_fsm (s : State) (v : Word) : (s.setResult v).fsm = s.fsm := rfl
@[simp] theorem setResult_lastSeen (s : State) (v : Word) :
    (s.setResult v).lastSeen = s.lastSeen := rfl
@[simp] theorem setResult_expCnt (s : State) (v : Word) : (s.setResult v).expCnt = s.expCnt := rfl
@[simp] theorem setResult_framesRx (s : State) (v : Word) :
    (s.setResult v).framesRx = s.framesRx := rfl
@[simp] theorem setResult_foreignCnt (s : State) (v : Word) :
    (s.setResult v).foreignCnt = s.foreignCnt := rfl
@[simp] theorem setResult_ovfCnt (s : State) (v : Word) : (s.setResult v).ovfCnt = s.ovfCnt := rfl
@[simp] theorem setResult_ignCnt (s : State) (v : Word) : (s.setResult v).ignCnt = s.ignCnt := rfl
@[simp] theorem setResult_q (s : State) (v : Word) : (s.setResult v).q = s.q := rfl
@[simp] theorem setResult_cfg (s : State) (v : Word) : (s.setResult v).cfg = s.cfg := rfl
@[simp] theorem setResult_pending (s : State) (v : Word) :
    (s.setResult v).pending = s.pending := rfl
@[simp] theorem setResult_responses (s : State) (v : Word) :
    (s.setResult v).responses = s.responses := rfl
@[simp] theorem setResult_resets (s : State) (v : Word) : (s.setResult v).resets = s.resets := rfl

@[simp] theorem setError_txBuf (s : State) (e : Bool) (c : BitVec 4) (w : Word) :
    (s.setError e c w).txBuf = s.txBuf := rfl
@[simp] theorem setError_txLen (s : State) (e : Bool) (c : BitVec 4) (w : Word) :
    (s.setError e c w).txLen = s.txLen := rfl
@[simp] theorem setError_rxBuf (s : State) (e : Bool) (c : BitVec 4) (w : Word) :
    (s.setError e c w).rxBuf = s.rxBuf := rfl
@[simp] theorem setError_rxLen (s : State) (e : Bool) (c : BitVec 4) (w : Word) :
    (s.setError e c w).rxLen = s.rxLen := rfl
@[simp] theorem setError_rxMeta (s : State) (e : Bool) (c : BitVec 4) (w : Word) :
    (s.setError e c w).rxMeta = s.rxMeta := rfl
@[simp] theorem setError_invAddr (s : State) (e : Bool) (c : BitVec 4) (w : Word) :
    (s.setError e c w).invAddr = s.invAddr := rfl
@[simp] theorem setError_stnAddr (s : State) (e : Bool) (c : BitVec 4) (w : Word) :
    (s.setError e c w).stnAddr = s.stnAddr := rfl
@[simp] theorem setError_crc16Acc (s : State) (e : Bool) (c : BitVec 4) (w : Word) :
    (s.setError e c w).crc16Acc = s.crc16Acc := rfl
@[simp] theorem setError_result (s : State) (e : Bool) (c : BitVec 4) (w : Word) :
    (s.setError e c w).result = s.result := rfl
@[simp] theorem setError_err (s : State) (e : Bool) (c : BitVec 4) (w : Word) :
    (s.setError e c w).err = e := rfl
@[simp] theorem setError_errCode (s : State) (e : Bool) (c : BitVec 4) (w : Word) :
    (s.setError e c w).errCode = c := rfl
@[simp] theorem setError_errCmd (s : State) (e : Bool) (c : BitVec 4) (w : Word) :
    (s.setError e c w).errCmd = w := rfl
@[simp] theorem setError_ovfSt (s : State) (e : Bool) (c : BitVec 4) (w : Word) :
    (s.setError e c w).ovfSt = s.ovfSt := rfl
@[simp] theorem setError_ignSt (s : State) (e : Bool) (c : BitVec 4) (w : Word) :
    (s.setError e c w).ignSt = s.ignSt := rfl
@[simp] theorem setError_fsm (s : State) (e : Bool) (c : BitVec 4) (w : Word) :
    (s.setError e c w).fsm = s.fsm := rfl
@[simp] theorem setError_lastSeen (s : State) (e : Bool) (c : BitVec 4) (w : Word) :
    (s.setError e c w).lastSeen = s.lastSeen := rfl
@[simp] theorem setError_expCnt (s : State) (e : Bool) (c : BitVec 4) (w : Word) :
    (s.setError e c w).expCnt = s.expCnt := rfl
@[simp] theorem setError_framesRx (s : State) (e : Bool) (c : BitVec 4) (w : Word) :
    (s.setError e c w).framesRx = s.framesRx := rfl
@[simp] theorem setError_foreignCnt (s : State) (e : Bool) (c : BitVec 4) (w : Word) :
    (s.setError e c w).foreignCnt = s.foreignCnt := rfl
@[simp] theorem setError_ovfCnt (s : State) (e : Bool) (c : BitVec 4) (w : Word) :
    (s.setError e c w).ovfCnt = s.ovfCnt := rfl
@[simp] theorem setError_ignCnt (s : State) (e : Bool) (c : BitVec 4) (w : Word) :
    (s.setError e c w).ignCnt = s.ignCnt := rfl
@[simp] theorem setError_q (s : State) (e : Bool) (c : BitVec 4) (w : Word) :
    (s.setError e c w).q = s.q := rfl
@[simp] theorem setError_cfg (s : State) (e : Bool) (c : BitVec 4) (w : Word) :
    (s.setError e c w).cfg = s.cfg := rfl
@[simp] theorem setError_pending (s : State) (e : Bool) (c : BitVec 4) (w : Word) :
    (s.setError e c w).pending = s.pending := rfl
@[simp] theorem setError_responses (s : State) (e : Bool) (c : BitVec 4) (w : Word) :
    (s.setError e c w).responses = s.responses := rfl
@[simp] theorem setError_resets (s : State) (e : Bool) (c : BitVec 4) (w : Word) :
    (s.setError e c w).resets = s.resets := rfl

@[simp] theorem setSticky_txBuf (s : State) (o i : Bool) : (s.setSticky o i).txBuf = s.txBuf := rfl
@[simp] theorem setSticky_txLen (s : State) (o i : Bool) : (s.setSticky o i).txLen = s.txLen := rfl
@[simp] theorem setSticky_rxBuf (s : State) (o i : Bool) : (s.setSticky o i).rxBuf = s.rxBuf := rfl
@[simp] theorem setSticky_rxLen (s : State) (o i : Bool) : (s.setSticky o i).rxLen = s.rxLen := rfl
@[simp] theorem setSticky_rxMeta (s : State) (o i : Bool) :
    (s.setSticky o i).rxMeta = s.rxMeta := rfl
@[simp] theorem setSticky_invAddr (s : State) (o i : Bool) :
    (s.setSticky o i).invAddr = s.invAddr := rfl
@[simp] theorem setSticky_stnAddr (s : State) (o i : Bool) :
    (s.setSticky o i).stnAddr = s.stnAddr := rfl
@[simp] theorem setSticky_crc16Acc (s : State) (o i : Bool) :
    (s.setSticky o i).crc16Acc = s.crc16Acc := rfl
@[simp] theorem setSticky_result (s : State) (o i : Bool) :
    (s.setSticky o i).result = s.result := rfl
@[simp] theorem setSticky_err (s : State) (o i : Bool) : (s.setSticky o i).err = s.err := rfl
@[simp] theorem setSticky_errCode (s : State) (o i : Bool) :
    (s.setSticky o i).errCode = s.errCode := rfl
@[simp] theorem setSticky_errCmd (s : State) (o i : Bool) :
    (s.setSticky o i).errCmd = s.errCmd := rfl
@[simp] theorem setSticky_ovfSt (s : State) (o i : Bool) : (s.setSticky o i).ovfSt = o := rfl
@[simp] theorem setSticky_ignSt (s : State) (o i : Bool) : (s.setSticky o i).ignSt = i := rfl
@[simp] theorem setSticky_fsm (s : State) (o i : Bool) : (s.setSticky o i).fsm = s.fsm := rfl
@[simp] theorem setSticky_lastSeen (s : State) (o i : Bool) :
    (s.setSticky o i).lastSeen = s.lastSeen := rfl
@[simp] theorem setSticky_expCnt (s : State) (o i : Bool) :
    (s.setSticky o i).expCnt = s.expCnt := rfl
@[simp] theorem setSticky_framesRx (s : State) (o i : Bool) :
    (s.setSticky o i).framesRx = s.framesRx := rfl
@[simp] theorem setSticky_foreignCnt (s : State) (o i : Bool) :
    (s.setSticky o i).foreignCnt = s.foreignCnt := rfl
@[simp] theorem setSticky_ovfCnt (s : State) (o i : Bool) :
    (s.setSticky o i).ovfCnt = s.ovfCnt := rfl
@[simp] theorem setSticky_ignCnt (s : State) (o i : Bool) :
    (s.setSticky o i).ignCnt = s.ignCnt := rfl
@[simp] theorem setSticky_q (s : State) (o i : Bool) : (s.setSticky o i).q = s.q := rfl
@[simp] theorem setSticky_cfg (s : State) (o i : Bool) : (s.setSticky o i).cfg = s.cfg := rfl
@[simp] theorem setSticky_pending (s : State) (o i : Bool) :
    (s.setSticky o i).pending = s.pending := rfl
@[simp] theorem setSticky_responses (s : State) (o i : Bool) :
    (s.setSticky o i).responses = s.responses := rfl
@[simp] theorem setSticky_resets (s : State) (o i : Bool) :
    (s.setSticky o i).resets = s.resets := rfl

@[simp] theorem setAttempt_txBuf (s : State) (f : Fsm) (l : Bool) (e : BitVec 7) (n : BitVec 8) :
    (s.setAttempt f l e n).txBuf = s.txBuf := rfl
@[simp] theorem setAttempt_txLen (s : State) (f : Fsm) (l : Bool) (e : BitVec 7) (n : BitVec 8) :
    (s.setAttempt f l e n).txLen = s.txLen := rfl
@[simp] theorem setAttempt_rxBuf (s : State) (f : Fsm) (l : Bool) (e : BitVec 7) (n : BitVec 8) :
    (s.setAttempt f l e n).rxBuf = s.rxBuf := rfl
@[simp] theorem setAttempt_rxLen (s : State) (f : Fsm) (l : Bool) (e : BitVec 7) (n : BitVec 8) :
    (s.setAttempt f l e n).rxLen = s.rxLen := rfl
@[simp] theorem setAttempt_rxMeta (s : State) (f : Fsm) (l : Bool) (e : BitVec 7) (n : BitVec 8) :
    (s.setAttempt f l e n).rxMeta = s.rxMeta := rfl
@[simp] theorem setAttempt_invAddr (s : State) (f : Fsm) (l : Bool) (e : BitVec 7) (n : BitVec 8) :
    (s.setAttempt f l e n).invAddr = s.invAddr := rfl
@[simp] theorem setAttempt_stnAddr (s : State) (f : Fsm) (l : Bool) (e : BitVec 7) (n : BitVec 8) :
    (s.setAttempt f l e n).stnAddr = s.stnAddr := rfl
@[simp] theorem setAttempt_crc16Acc (s : State) (f : Fsm) (l : Bool) (e : BitVec 7) (n : BitVec 8) :
    (s.setAttempt f l e n).crc16Acc = s.crc16Acc := rfl
@[simp] theorem setAttempt_result (s : State) (f : Fsm) (l : Bool) (e : BitVec 7) (n : BitVec 8) :
    (s.setAttempt f l e n).result = s.result := rfl
@[simp] theorem setAttempt_err (s : State) (f : Fsm) (l : Bool) (e : BitVec 7) (n : BitVec 8) :
    (s.setAttempt f l e n).err = s.err := rfl
@[simp] theorem setAttempt_errCode (s : State) (f : Fsm) (l : Bool) (e : BitVec 7) (n : BitVec 8) :
    (s.setAttempt f l e n).errCode = s.errCode := rfl
@[simp] theorem setAttempt_errCmd (s : State) (f : Fsm) (l : Bool) (e : BitVec 7) (n : BitVec 8) :
    (s.setAttempt f l e n).errCmd = s.errCmd := rfl
@[simp] theorem setAttempt_ovfSt (s : State) (f : Fsm) (l : Bool) (e : BitVec 7) (n : BitVec 8) :
    (s.setAttempt f l e n).ovfSt = s.ovfSt := rfl
@[simp] theorem setAttempt_ignSt (s : State) (f : Fsm) (l : Bool) (e : BitVec 7) (n : BitVec 8) :
    (s.setAttempt f l e n).ignSt = s.ignSt := rfl
@[simp] theorem setAttempt_fsm (s : State) (f : Fsm) (l : Bool) (e : BitVec 7) (n : BitVec 8) :
    (s.setAttempt f l e n).fsm = f := rfl
@[simp] theorem setAttempt_lastSeen (s : State) (f : Fsm) (l : Bool) (e : BitVec 7) (n : BitVec 8) :
    (s.setAttempt f l e n).lastSeen = l := rfl
@[simp] theorem setAttempt_expCnt (s : State) (f : Fsm) (l : Bool) (e : BitVec 7) (n : BitVec 8) :
    (s.setAttempt f l e n).expCnt = e := rfl
@[simp] theorem setAttempt_framesRx (s : State) (f : Fsm) (l : Bool) (e : BitVec 7) (n : BitVec 8) :
    (s.setAttempt f l e n).framesRx = n := rfl
@[simp] theorem setAttempt_foreignCnt (s : State) (f : Fsm) (l : Bool) (e : BitVec 7) (n : BitVec 8) :
    (s.setAttempt f l e n).foreignCnt = s.foreignCnt := rfl
@[simp] theorem setAttempt_ovfCnt (s : State) (f : Fsm) (l : Bool) (e : BitVec 7) (n : BitVec 8) :
    (s.setAttempt f l e n).ovfCnt = s.ovfCnt := rfl
@[simp] theorem setAttempt_ignCnt (s : State) (f : Fsm) (l : Bool) (e : BitVec 7) (n : BitVec 8) :
    (s.setAttempt f l e n).ignCnt = s.ignCnt := rfl
@[simp] theorem setAttempt_q (s : State) (f : Fsm) (l : Bool) (e : BitVec 7) (n : BitVec 8) :
    (s.setAttempt f l e n).q = s.q := rfl
@[simp] theorem setAttempt_cfg (s : State) (f : Fsm) (l : Bool) (e : BitVec 7) (n : BitVec 8) :
    (s.setAttempt f l e n).cfg = s.cfg := rfl
@[simp] theorem setAttempt_pending (s : State) (f : Fsm) (l : Bool) (e : BitVec 7) (n : BitVec 8) :
    (s.setAttempt f l e n).pending = s.pending := rfl
@[simp] theorem setAttempt_responses (s : State) (f : Fsm) (l : Bool) (e : BitVec 7) (n : BitVec 8) :
    (s.setAttempt f l e n).responses = s.responses := rfl
@[simp] theorem setAttempt_resets (s : State) (f : Fsm) (l : Bool) (e : BitVec 7) (n : BitVec 8) :
    (s.setAttempt f l e n).resets = s.resets := rfl

@[simp] theorem setDrops_txBuf (s : State) (f o i : BitVec 8) :
    (s.setDrops f o i).txBuf = s.txBuf := rfl
@[simp] theorem setDrops_txLen (s : State) (f o i : BitVec 8) :
    (s.setDrops f o i).txLen = s.txLen := rfl
@[simp] theorem setDrops_rxBuf (s : State) (f o i : BitVec 8) :
    (s.setDrops f o i).rxBuf = s.rxBuf := rfl
@[simp] theorem setDrops_rxLen (s : State) (f o i : BitVec 8) :
    (s.setDrops f o i).rxLen = s.rxLen := rfl
@[simp] theorem setDrops_rxMeta (s : State) (f o i : BitVec 8) :
    (s.setDrops f o i).rxMeta = s.rxMeta := rfl
@[simp] theorem setDrops_invAddr (s : State) (f o i : BitVec 8) :
    (s.setDrops f o i).invAddr = s.invAddr := rfl
@[simp] theorem setDrops_stnAddr (s : State) (f o i : BitVec 8) :
    (s.setDrops f o i).stnAddr = s.stnAddr := rfl
@[simp] theorem setDrops_crc16Acc (s : State) (f o i : BitVec 8) :
    (s.setDrops f o i).crc16Acc = s.crc16Acc := rfl
@[simp] theorem setDrops_result (s : State) (f o i : BitVec 8) :
    (s.setDrops f o i).result = s.result := rfl
@[simp] theorem setDrops_err (s : State) (f o i : BitVec 8) : (s.setDrops f o i).err = s.err := rfl
@[simp] theorem setDrops_errCode (s : State) (f o i : BitVec 8) :
    (s.setDrops f o i).errCode = s.errCode := rfl
@[simp] theorem setDrops_errCmd (s : State) (f o i : BitVec 8) :
    (s.setDrops f o i).errCmd = s.errCmd := rfl
@[simp] theorem setDrops_ovfSt (s : State) (f o i : BitVec 8) :
    (s.setDrops f o i).ovfSt = s.ovfSt := rfl
@[simp] theorem setDrops_ignSt (s : State) (f o i : BitVec 8) :
    (s.setDrops f o i).ignSt = s.ignSt := rfl
@[simp] theorem setDrops_fsm (s : State) (f o i : BitVec 8) : (s.setDrops f o i).fsm = s.fsm := rfl
@[simp] theorem setDrops_lastSeen (s : State) (f o i : BitVec 8) :
    (s.setDrops f o i).lastSeen = s.lastSeen := rfl
@[simp] theorem setDrops_expCnt (s : State) (f o i : BitVec 8) :
    (s.setDrops f o i).expCnt = s.expCnt := rfl
@[simp] theorem setDrops_framesRx (s : State) (f o i : BitVec 8) :
    (s.setDrops f o i).framesRx = s.framesRx := rfl
@[simp] theorem setDrops_foreignCnt (s : State) (f o i : BitVec 8) :
    (s.setDrops f o i).foreignCnt = f := rfl
@[simp] theorem setDrops_ovfCnt (s : State) (f o i : BitVec 8) :
    (s.setDrops f o i).ovfCnt = o := rfl
@[simp] theorem setDrops_ignCnt (s : State) (f o i : BitVec 8) :
    (s.setDrops f o i).ignCnt = i := rfl
@[simp] theorem setDrops_q (s : State) (f o i : BitVec 8) : (s.setDrops f o i).q = s.q := rfl
@[simp] theorem setDrops_cfg (s : State) (f o i : BitVec 8) : (s.setDrops f o i).cfg = s.cfg := rfl
@[simp] theorem setDrops_pending (s : State) (f o i : BitVec 8) :
    (s.setDrops f o i).pending = s.pending := rfl
@[simp] theorem setDrops_responses (s : State) (f o i : BitVec 8) :
    (s.setDrops f o i).responses = s.responses := rfl
@[simp] theorem setDrops_resets (s : State) (f o i : BitVec 8) :
    (s.setDrops f o i).resets = s.resets := rfl

@[simp] theorem setQ_txBuf (s : State) (l : List Entry) : (s.setQ l).txBuf = s.txBuf := rfl
@[simp] theorem setQ_txLen (s : State) (l : List Entry) : (s.setQ l).txLen = s.txLen := rfl
@[simp] theorem setQ_rxBuf (s : State) (l : List Entry) : (s.setQ l).rxBuf = s.rxBuf := rfl
@[simp] theorem setQ_rxLen (s : State) (l : List Entry) : (s.setQ l).rxLen = s.rxLen := rfl
@[simp] theorem setQ_rxMeta (s : State) (l : List Entry) : (s.setQ l).rxMeta = s.rxMeta := rfl
@[simp] theorem setQ_invAddr (s : State) (l : List Entry) : (s.setQ l).invAddr = s.invAddr := rfl
@[simp] theorem setQ_stnAddr (s : State) (l : List Entry) : (s.setQ l).stnAddr = s.stnAddr := rfl
@[simp] theorem setQ_crc16Acc (s : State) (l : List Entry) : (s.setQ l).crc16Acc = s.crc16Acc := rfl
@[simp] theorem setQ_result (s : State) (l : List Entry) : (s.setQ l).result = s.result := rfl
@[simp] theorem setQ_err (s : State) (l : List Entry) : (s.setQ l).err = s.err := rfl
@[simp] theorem setQ_errCode (s : State) (l : List Entry) : (s.setQ l).errCode = s.errCode := rfl
@[simp] theorem setQ_errCmd (s : State) (l : List Entry) : (s.setQ l).errCmd = s.errCmd := rfl
@[simp] theorem setQ_ovfSt (s : State) (l : List Entry) : (s.setQ l).ovfSt = s.ovfSt := rfl
@[simp] theorem setQ_ignSt (s : State) (l : List Entry) : (s.setQ l).ignSt = s.ignSt := rfl
@[simp] theorem setQ_fsm (s : State) (l : List Entry) : (s.setQ l).fsm = s.fsm := rfl
@[simp] theorem setQ_lastSeen (s : State) (l : List Entry) : (s.setQ l).lastSeen = s.lastSeen := rfl
@[simp] theorem setQ_expCnt (s : State) (l : List Entry) : (s.setQ l).expCnt = s.expCnt := rfl
@[simp] theorem setQ_framesRx (s : State) (l : List Entry) : (s.setQ l).framesRx = s.framesRx := rfl
@[simp] theorem setQ_foreignCnt (s : State) (l : List Entry) :
    (s.setQ l).foreignCnt = s.foreignCnt := rfl
@[simp] theorem setQ_ovfCnt (s : State) (l : List Entry) : (s.setQ l).ovfCnt = s.ovfCnt := rfl
@[simp] theorem setQ_ignCnt (s : State) (l : List Entry) : (s.setQ l).ignCnt = s.ignCnt := rfl
@[simp] theorem setQ_q (s : State) (l : List Entry) : (s.setQ l).q = l := rfl
@[simp] theorem setQ_cfg (s : State) (l : List Entry) : (s.setQ l).cfg = s.cfg := rfl
@[simp] theorem setQ_pending (s : State) (l : List Entry) : (s.setQ l).pending = s.pending := rfl
@[simp] theorem setQ_responses (s : State) (l : List Entry) :
    (s.setQ l).responses = s.responses := rfl
@[simp] theorem setQ_resets (s : State) (l : List Entry) : (s.setQ l).resets = s.resets := rfl

@[simp] theorem setPending_txBuf (s : State) (p : List HostAction) :
    (s.setPending p).txBuf = s.txBuf := rfl
@[simp] theorem setPending_txLen (s : State) (p : List HostAction) :
    (s.setPending p).txLen = s.txLen := rfl
@[simp] theorem setPending_rxBuf (s : State) (p : List HostAction) :
    (s.setPending p).rxBuf = s.rxBuf := rfl
@[simp] theorem setPending_rxLen (s : State) (p : List HostAction) :
    (s.setPending p).rxLen = s.rxLen := rfl
@[simp] theorem setPending_rxMeta (s : State) (p : List HostAction) :
    (s.setPending p).rxMeta = s.rxMeta := rfl
@[simp] theorem setPending_invAddr (s : State) (p : List HostAction) :
    (s.setPending p).invAddr = s.invAddr := rfl
@[simp] theorem setPending_stnAddr (s : State) (p : List HostAction) :
    (s.setPending p).stnAddr = s.stnAddr := rfl
@[simp] theorem setPending_crc16Acc (s : State) (p : List HostAction) :
    (s.setPending p).crc16Acc = s.crc16Acc := rfl
@[simp] theorem setPending_result (s : State) (p : List HostAction) :
    (s.setPending p).result = s.result := rfl
@[simp] theorem setPending_err (s : State) (p : List HostAction) :
    (s.setPending p).err = s.err := rfl
@[simp] theorem setPending_errCode (s : State) (p : List HostAction) :
    (s.setPending p).errCode = s.errCode := rfl
@[simp] theorem setPending_errCmd (s : State) (p : List HostAction) :
    (s.setPending p).errCmd = s.errCmd := rfl
@[simp] theorem setPending_ovfSt (s : State) (p : List HostAction) :
    (s.setPending p).ovfSt = s.ovfSt := rfl
@[simp] theorem setPending_ignSt (s : State) (p : List HostAction) :
    (s.setPending p).ignSt = s.ignSt := rfl
@[simp] theorem setPending_fsm (s : State) (p : List HostAction) :
    (s.setPending p).fsm = s.fsm := rfl
@[simp] theorem setPending_lastSeen (s : State) (p : List HostAction) :
    (s.setPending p).lastSeen = s.lastSeen := rfl
@[simp] theorem setPending_expCnt (s : State) (p : List HostAction) :
    (s.setPending p).expCnt = s.expCnt := rfl
@[simp] theorem setPending_framesRx (s : State) (p : List HostAction) :
    (s.setPending p).framesRx = s.framesRx := rfl
@[simp] theorem setPending_foreignCnt (s : State) (p : List HostAction) :
    (s.setPending p).foreignCnt = s.foreignCnt := rfl
@[simp] theorem setPending_ovfCnt (s : State) (p : List HostAction) :
    (s.setPending p).ovfCnt = s.ovfCnt := rfl
@[simp] theorem setPending_ignCnt (s : State) (p : List HostAction) :
    (s.setPending p).ignCnt = s.ignCnt := rfl
@[simp] theorem setPending_q (s : State) (p : List HostAction) : (s.setPending p).q = s.q := rfl
@[simp] theorem setPending_cfg (s : State) (p : List HostAction) :
    (s.setPending p).cfg = s.cfg := rfl
@[simp] theorem setPending_pending (s : State) (p : List HostAction) :
    (s.setPending p).pending = p := rfl
@[simp] theorem setPending_responses (s : State) (p : List HostAction) :
    (s.setPending p).responses = s.responses := rfl
@[simp] theorem setPending_resets (s : State) (p : List HostAction) :
    (s.setPending p).resets = s.resets := rfl

@[simp] theorem setResponses_txBuf (s : State) (r : List Word) :
    (s.setResponses r).txBuf = s.txBuf := rfl
@[simp] theorem setResponses_txLen (s : State) (r : List Word) :
    (s.setResponses r).txLen = s.txLen := rfl
@[simp] theorem setResponses_rxBuf (s : State) (r : List Word) :
    (s.setResponses r).rxBuf = s.rxBuf := rfl
@[simp] theorem setResponses_rxLen (s : State) (r : List Word) :
    (s.setResponses r).rxLen = s.rxLen := rfl
@[simp] theorem setResponses_rxMeta (s : State) (r : List Word) :
    (s.setResponses r).rxMeta = s.rxMeta := rfl
@[simp] theorem setResponses_invAddr (s : State) (r : List Word) :
    (s.setResponses r).invAddr = s.invAddr := rfl
@[simp] theorem setResponses_stnAddr (s : State) (r : List Word) :
    (s.setResponses r).stnAddr = s.stnAddr := rfl
@[simp] theorem setResponses_crc16Acc (s : State) (r : List Word) :
    (s.setResponses r).crc16Acc = s.crc16Acc := rfl
@[simp] theorem setResponses_result (s : State) (r : List Word) :
    (s.setResponses r).result = s.result := rfl
@[simp] theorem setResponses_err (s : State) (r : List Word) : (s.setResponses r).err = s.err := rfl
@[simp] theorem setResponses_errCode (s : State) (r : List Word) :
    (s.setResponses r).errCode = s.errCode := rfl
@[simp] theorem setResponses_errCmd (s : State) (r : List Word) :
    (s.setResponses r).errCmd = s.errCmd := rfl
@[simp] theorem setResponses_ovfSt (s : State) (r : List Word) :
    (s.setResponses r).ovfSt = s.ovfSt := rfl
@[simp] theorem setResponses_ignSt (s : State) (r : List Word) :
    (s.setResponses r).ignSt = s.ignSt := rfl
@[simp] theorem setResponses_fsm (s : State) (r : List Word) : (s.setResponses r).fsm = s.fsm := rfl
@[simp] theorem setResponses_lastSeen (s : State) (r : List Word) :
    (s.setResponses r).lastSeen = s.lastSeen := rfl
@[simp] theorem setResponses_expCnt (s : State) (r : List Word) :
    (s.setResponses r).expCnt = s.expCnt := rfl
@[simp] theorem setResponses_framesRx (s : State) (r : List Word) :
    (s.setResponses r).framesRx = s.framesRx := rfl
@[simp] theorem setResponses_foreignCnt (s : State) (r : List Word) :
    (s.setResponses r).foreignCnt = s.foreignCnt := rfl
@[simp] theorem setResponses_ovfCnt (s : State) (r : List Word) :
    (s.setResponses r).ovfCnt = s.ovfCnt := rfl
@[simp] theorem setResponses_ignCnt (s : State) (r : List Word) :
    (s.setResponses r).ignCnt = s.ignCnt := rfl
@[simp] theorem setResponses_q (s : State) (r : List Word) : (s.setResponses r).q = s.q := rfl
@[simp] theorem setResponses_cfg (s : State) (r : List Word) : (s.setResponses r).cfg = s.cfg := rfl
@[simp] theorem setResponses_pending (s : State) (r : List Word) :
    (s.setResponses r).pending = s.pending := rfl
@[simp] theorem setResponses_responses (s : State) (r : List Word) :
    (s.setResponses r).responses = r := rfl
@[simp] theorem setResponses_resets (s : State) (r : List Word) :
    (s.setResponses r).resets = s.resets := rfl

@[simp] theorem afterReset_txBuf (c : Config) (k : Nat) (p : List HostAction) (r : List Word) :
    (State.afterReset c k p r).txBuf = Vector.ofFn fun i => Config.resetTxByte k i := rfl
@[simp] theorem afterReset_txLen (c : Config) (k : Nat) (p : List HostAction) (r : List Word) :
    (State.afterReset c k p r).txLen = 0 := rfl
@[simp] theorem afterReset_rxBuf (c : Config) (k : Nat) (p : List HostAction) (r : List Word) :
    (State.afterReset c k p r).rxBuf = Vector.ofFn fun i => Config.resetRxByte k i := rfl
@[simp] theorem afterReset_rxLen (c : Config) (k : Nat) (p : List HostAction) (r : List Word) :
    (State.afterReset c k p r).rxLen = 0 := rfl
@[simp] theorem afterReset_rxMeta (c : Config) (k : Nat) (p : List HostAction) (r : List Word) :
    (State.afterReset c k p r).rxMeta = 0 := rfl
@[simp] theorem afterReset_invAddr (c : Config) (k : Nat) (p : List HostAction) (r : List Word) :
    (State.afterReset c k p r).invAddr = 0 := rfl
@[simp] theorem afterReset_stnAddr (c : Config) (k : Nat) (p : List HostAction) (r : List Word) :
    (State.afterReset c k p r).stnAddr = 0 := rfl
@[simp] theorem afterReset_crc16Acc (c : Config) (k : Nat) (p : List HostAction) (r : List Word) :
    (State.afterReset c k p r).crc16Acc = c.crc16Init := rfl
@[simp] theorem afterReset_result (c : Config) (k : Nat) (p : List HostAction) (r : List Word) :
    (State.afterReset c k p r).result = 0 := rfl
@[simp] theorem afterReset_err (c : Config) (k : Nat) (p : List HostAction) (r : List Word) :
    (State.afterReset c k p r).err = false := rfl
@[simp] theorem afterReset_errCode (c : Config) (k : Nat) (p : List HostAction) (r : List Word) :
    (State.afterReset c k p r).errCode = 0 := rfl
@[simp] theorem afterReset_errCmd (c : Config) (k : Nat) (p : List HostAction) (r : List Word) :
    (State.afterReset c k p r).errCmd = 0 := rfl
@[simp] theorem afterReset_ovfSt (c : Config) (k : Nat) (p : List HostAction) (r : List Word) :
    (State.afterReset c k p r).ovfSt = false := rfl
@[simp] theorem afterReset_ignSt (c : Config) (k : Nat) (p : List HostAction) (r : List Word) :
    (State.afterReset c k p r).ignSt = false := rfl
@[simp] theorem afterReset_fsm (c : Config) (k : Nat) (p : List HostAction) (r : List Word) :
    (State.afterReset c k p r).fsm = .idle := rfl
@[simp] theorem afterReset_lastSeen (c : Config) (k : Nat) (p : List HostAction) (r : List Word) :
    (State.afterReset c k p r).lastSeen = false := rfl
@[simp] theorem afterReset_expCnt (c : Config) (k : Nat) (p : List HostAction) (r : List Word) :
    (State.afterReset c k p r).expCnt = 0 := rfl
@[simp] theorem afterReset_framesRx (c : Config) (k : Nat) (p : List HostAction) (r : List Word) :
    (State.afterReset c k p r).framesRx = 0 := rfl
@[simp] theorem afterReset_foreignCnt (c : Config) (k : Nat) (p : List HostAction) (r : List Word) :
    (State.afterReset c k p r).foreignCnt = 0 := rfl
@[simp] theorem afterReset_ovfCnt (c : Config) (k : Nat) (p : List HostAction) (r : List Word) :
    (State.afterReset c k p r).ovfCnt = 0 := rfl
@[simp] theorem afterReset_ignCnt (c : Config) (k : Nat) (p : List HostAction) (r : List Word) :
    (State.afterReset c k p r).ignCnt = 0 := rfl
@[simp] theorem afterReset_q (c : Config) (k : Nat) (p : List HostAction) (r : List Word) :
    (State.afterReset c k p r).q = [] := rfl
@[simp] theorem afterReset_cfg (c : Config) (k : Nat) (p : List HostAction) (r : List Word) :
    (State.afterReset c k p r).cfg = c := rfl
@[simp] theorem afterReset_pending (c : Config) (k : Nat) (p : List HostAction) (r : List Word) :
    (State.afterReset c k p r).pending = p := rfl
@[simp] theorem afterReset_responses (c : Config) (k : Nat) (p : List HostAction) (r : List Word) :
    (State.afterReset c k p r).responses = r := rfl
@[simp] theorem afterReset_resets (c : Config) (k : Nat) (p : List HostAction) (r : List Word) :
    (State.afterReset c k p r).resets = k := rfl

@[simp] theorem enqueue_txBuf (s : State) (e : Entry) : (s.enqueue e).txBuf = s.txBuf := rfl
@[simp] theorem enqueue_txLen (s : State) (e : Entry) : (s.enqueue e).txLen = s.txLen := rfl
@[simp] theorem enqueue_rxBuf (s : State) (e : Entry) : (s.enqueue e).rxBuf = s.rxBuf := rfl
@[simp] theorem enqueue_rxLen (s : State) (e : Entry) : (s.enqueue e).rxLen = s.rxLen := rfl
@[simp] theorem enqueue_rxMeta (s : State) (e : Entry) : (s.enqueue e).rxMeta = s.rxMeta := rfl
@[simp] theorem enqueue_invAddr (s : State) (e : Entry) : (s.enqueue e).invAddr = s.invAddr := rfl
@[simp] theorem enqueue_stnAddr (s : State) (e : Entry) : (s.enqueue e).stnAddr = s.stnAddr := rfl
@[simp] theorem enqueue_crc16Acc (s : State) (e : Entry) :
    (s.enqueue e).crc16Acc = s.crc16Acc := rfl
@[simp] theorem enqueue_result (s : State) (e : Entry) : (s.enqueue e).result = s.result := rfl
@[simp] theorem enqueue_err (s : State) (e : Entry) : (s.enqueue e).err = s.err := rfl
@[simp] theorem enqueue_errCode (s : State) (e : Entry) : (s.enqueue e).errCode = s.errCode := rfl
@[simp] theorem enqueue_errCmd (s : State) (e : Entry) : (s.enqueue e).errCmd = s.errCmd := rfl
@[simp] theorem enqueue_ovfSt (s : State) (e : Entry) : (s.enqueue e).ovfSt = s.ovfSt := rfl
@[simp] theorem enqueue_ignSt (s : State) (e : Entry) : (s.enqueue e).ignSt = s.ignSt := rfl
@[simp] theorem enqueue_fsm (s : State) (e : Entry) : (s.enqueue e).fsm = s.fsm := rfl
@[simp] theorem enqueue_lastSeen (s : State) (e : Entry) :
    (s.enqueue e).lastSeen = s.lastSeen := rfl
@[simp] theorem enqueue_expCnt (s : State) (e : Entry) : (s.enqueue e).expCnt = s.expCnt := rfl
@[simp] theorem enqueue_framesRx (s : State) (e : Entry) :
    (s.enqueue e).framesRx = s.framesRx := rfl
@[simp] theorem enqueue_foreignCnt (s : State) (e : Entry) :
    (s.enqueue e).foreignCnt = s.foreignCnt := rfl
@[simp] theorem enqueue_ovfCnt (s : State) (e : Entry) : (s.enqueue e).ovfCnt = s.ovfCnt := rfl
@[simp] theorem enqueue_ignCnt (s : State) (e : Entry) : (s.enqueue e).ignCnt = s.ignCnt := rfl
@[simp] theorem enqueue_q (s : State) (e : Entry) : (s.enqueue e).q = s.q ++ [e] := rfl
@[simp] theorem enqueue_cfg (s : State) (e : Entry) : (s.enqueue e).cfg = s.cfg := rfl
@[simp] theorem enqueue_pending (s : State) (e : Entry) : (s.enqueue e).pending = s.pending := rfl
@[simp] theorem enqueue_responses (s : State) (e : Entry) :
    (s.enqueue e).responses = s.responses := rfl
@[simp] theorem enqueue_resets (s : State) (e : Entry) : (s.enqueue e).resets = s.resets := rfl

@[simp] theorem raise_txBuf (s : State) (c : CmdError) (v : Word) : (s.raise c v).txBuf = s.txBuf := by
  unfold raise; split <;> rfl
@[simp] theorem raise_txLen (s : State) (c : CmdError) (v : Word) : (s.raise c v).txLen = s.txLen := by
  unfold raise; split <;> rfl
@[simp] theorem raise_rxBuf (s : State) (c : CmdError) (v : Word) : (s.raise c v).rxBuf = s.rxBuf := by
  unfold raise; split <;> rfl
@[simp] theorem raise_rxLen (s : State) (c : CmdError) (v : Word) : (s.raise c v).rxLen = s.rxLen := by
  unfold raise; split <;> rfl
@[simp] theorem raise_rxMeta (s : State) (c : CmdError) (v : Word) : (s.raise c v).rxMeta = s.rxMeta := by
  unfold raise; split <;> rfl
@[simp] theorem raise_invAddr (s : State) (c : CmdError) (v : Word) : (s.raise c v).invAddr = s.invAddr := by
  unfold raise; split <;> rfl
@[simp] theorem raise_stnAddr (s : State) (c : CmdError) (v : Word) : (s.raise c v).stnAddr = s.stnAddr := by
  unfold raise; split <;> rfl
@[simp] theorem raise_crc16Acc (s : State) (c : CmdError) (v : Word) : (s.raise c v).crc16Acc = s.crc16Acc := by
  unfold raise; split <;> rfl
@[simp] theorem raise_result (s : State) (c : CmdError) (v : Word) : (s.raise c v).result = s.result := by
  unfold raise; split <;> rfl
@[simp] theorem raise_ovfSt (s : State) (c : CmdError) (v : Word) : (s.raise c v).ovfSt = s.ovfSt := by
  unfold raise; split <;> rfl
@[simp] theorem raise_ignSt (s : State) (c : CmdError) (v : Word) : (s.raise c v).ignSt = s.ignSt := by
  unfold raise; split <;> rfl
@[simp] theorem raise_fsm (s : State) (c : CmdError) (v : Word) : (s.raise c v).fsm = s.fsm := by
  unfold raise; split <;> rfl
@[simp] theorem raise_lastSeen (s : State) (c : CmdError) (v : Word) : (s.raise c v).lastSeen = s.lastSeen := by
  unfold raise; split <;> rfl
@[simp] theorem raise_expCnt (s : State) (c : CmdError) (v : Word) : (s.raise c v).expCnt = s.expCnt := by
  unfold raise; split <;> rfl
@[simp] theorem raise_framesRx (s : State) (c : CmdError) (v : Word) : (s.raise c v).framesRx = s.framesRx := by
  unfold raise; split <;> rfl
@[simp] theorem raise_foreignCnt (s : State) (c : CmdError) (v : Word) : (s.raise c v).foreignCnt = s.foreignCnt := by
  unfold raise; split <;> rfl
@[simp] theorem raise_ovfCnt (s : State) (c : CmdError) (v : Word) : (s.raise c v).ovfCnt = s.ovfCnt := by
  unfold raise; split <;> rfl
@[simp] theorem raise_ignCnt (s : State) (c : CmdError) (v : Word) : (s.raise c v).ignCnt = s.ignCnt := by
  unfold raise; split <;> rfl
@[simp] theorem raise_q (s : State) (c : CmdError) (v : Word) : (s.raise c v).q = s.q := by
  unfold raise; split <;> rfl
@[simp] theorem raise_cfg (s : State) (c : CmdError) (v : Word) : (s.raise c v).cfg = s.cfg := by
  unfold raise; split <;> rfl
@[simp] theorem raise_pending (s : State) (c : CmdError) (v : Word) : (s.raise c v).pending = s.pending := by
  unfold raise; split <;> rfl
@[simp] theorem raise_responses (s : State) (c : CmdError) (v : Word) : (s.raise c v).responses = s.responses := by
  unfold raise; split <;> rfl
@[simp] theorem raise_resets (s : State) (c : CmdError) (v : Word) : (s.raise c v).resets = s.resets := by
  unfold raise; split <;> rfl
@[simp] theorem raise_err (s : State) (c : CmdError) (v : Word) : (s.raise c v).err = true := by
  unfold raise; split <;> simp_all
theorem raise_errCode (s : State) (c : CmdError) (v : Word) :
    (s.raise c v).errCode = if s.err then s.errCode else c.code := by
  unfold raise; split <;> rfl
theorem raise_errCmd (s : State) (c : CmdError) (v : Word) :
    (s.raise c v).errCmd = if s.err then s.errCmd else v := by
  unfold raise; split <;> rfl

@[simp] theorem clearStatus_txBuf (s : State) (v : Word) : (s.clearStatus v).txBuf = s.txBuf := by
  unfold clearStatus; simp only []; split <;> rfl
@[simp] theorem clearStatus_txLen (s : State) (v : Word) : (s.clearStatus v).txLen = s.txLen := by
  unfold clearStatus; simp only []; split <;> rfl
@[simp] theorem clearStatus_rxBuf (s : State) (v : Word) : (s.clearStatus v).rxBuf = s.rxBuf := by
  unfold clearStatus; simp only []; split <;> rfl
@[simp] theorem clearStatus_rxLen (s : State) (v : Word) : (s.clearStatus v).rxLen = s.rxLen := by
  unfold clearStatus; simp only []; split <;> rfl
@[simp] theorem clearStatus_rxMeta (s : State) (v : Word) : (s.clearStatus v).rxMeta = s.rxMeta := by
  unfold clearStatus; simp only []; split <;> rfl
@[simp] theorem clearStatus_invAddr (s : State) (v : Word) : (s.clearStatus v).invAddr = s.invAddr := by
  unfold clearStatus; simp only []; split <;> rfl
@[simp] theorem clearStatus_stnAddr (s : State) (v : Word) : (s.clearStatus v).stnAddr = s.stnAddr := by
  unfold clearStatus; simp only []; split <;> rfl
@[simp] theorem clearStatus_crc16Acc (s : State) (v : Word) : (s.clearStatus v).crc16Acc = s.crc16Acc := by
  unfold clearStatus; simp only []; split <;> rfl
@[simp] theorem clearStatus_result (s : State) (v : Word) : (s.clearStatus v).result = s.result := by
  unfold clearStatus; simp only []; split <;> rfl
@[simp] theorem clearStatus_fsm (s : State) (v : Word) : (s.clearStatus v).fsm = s.fsm := by
  unfold clearStatus; simp only []; split <;> rfl
@[simp] theorem clearStatus_lastSeen (s : State) (v : Word) : (s.clearStatus v).lastSeen = s.lastSeen := by
  unfold clearStatus; simp only []; split <;> rfl
@[simp] theorem clearStatus_expCnt (s : State) (v : Word) : (s.clearStatus v).expCnt = s.expCnt := by
  unfold clearStatus; simp only []; split <;> rfl
@[simp] theorem clearStatus_framesRx (s : State) (v : Word) : (s.clearStatus v).framesRx = s.framesRx := by
  unfold clearStatus; simp only []; split <;> rfl
@[simp] theorem clearStatus_foreignCnt (s : State) (v : Word) : (s.clearStatus v).foreignCnt = s.foreignCnt := by
  unfold clearStatus; simp only []; split <;> rfl
@[simp] theorem clearStatus_ovfCnt (s : State) (v : Word) : (s.clearStatus v).ovfCnt = s.ovfCnt := by
  unfold clearStatus; simp only []; split <;> rfl
@[simp] theorem clearStatus_ignCnt (s : State) (v : Word) : (s.clearStatus v).ignCnt = s.ignCnt := by
  unfold clearStatus; simp only []; split <;> rfl
@[simp] theorem clearStatus_q (s : State) (v : Word) : (s.clearStatus v).q = s.q := by
  unfold clearStatus; simp only []; split <;> rfl
@[simp] theorem clearStatus_cfg (s : State) (v : Word) : (s.clearStatus v).cfg = s.cfg := by
  unfold clearStatus; simp only []; split <;> rfl
@[simp] theorem clearStatus_pending (s : State) (v : Word) : (s.clearStatus v).pending = s.pending := by
  unfold clearStatus; simp only []; split <;> rfl
@[simp] theorem clearStatus_responses (s : State) (v : Word) : (s.clearStatus v).responses = s.responses := by
  unfold clearStatus; simp only []; split <;> rfl
@[simp] theorem clearStatus_resets (s : State) (v : Word) : (s.clearStatus v).resets = s.resets := by
  unfold clearStatus; simp only []; split <;> rfl
@[simp] theorem clearStatus_ovfSt (s : State) (v : Word) :
    (s.clearStatus v).ovfSt = (s.ovfSt && decide (bits v 1 1 ≠ 1)) := rfl
@[simp] theorem clearStatus_ignSt (s : State) (v : Word) :
    (s.clearStatus v).ignSt = (s.ignSt && decide (bits v 2 2 ≠ 1)) := rfl
theorem clearStatus_err (s : State) (v : Word) :
    (s.clearStatus v).err = if bits v 0 0 = 1 then false else s.err := by
  unfold clearStatus; simp only []; split <;> rfl
theorem clearStatus_errCode (s : State) (v : Word) :
    (s.clearStatus v).errCode = if bits v 0 0 = 1 then 0 else s.errCode := by
  unfold clearStatus; simp only []; split <;> rfl
theorem clearStatus_errCmd (s : State) (v : Word) :
    (s.clearStatus v).errCmd = if bits v 0 0 = 1 then 0 else s.errCmd := by
  unfold clearStatus; simp only []; split <;> rfl

end Sys2Proof.Machine.State
end

