-- ==== Sys2Proof/Laws/Ops.lean ====
section
/-! SUPPORT. One law per shared operation: buffers and byte strings, saturating counts, the source of a
CRC command, reset, and the shape of a bus transaction. -/

namespace Sys2Proof.Machine

/-! ## Buffers -/

theorem readByte_eq (b : Buffer) {i : Nat} (h : i < Config.maxLen) : readByte b i = b[i] := by
  simp [readByte, h]

theorem readByte_beyond (b : Buffer) {i : Nat} (h : Config.maxLen ≤ i) : readByte b i = 0 := by
  simp [readByte, Vector.getElem?_eq_none h]

@[simp] theorem readByte_writeByte (b : Buffer) (i j : Nat) (v : Byte) :
    readByte (writeByte b i v) j = if i = j ∧ j < Config.maxLen then v else readByte b j := by
  unfold readByte writeByte
  by_cases hj : j < Config.maxLen
  · by_cases hi : i = j
    · subst hi; simp [hj]
    · simp [hi, hj]
  · simp [hj]

/-- What a string written at `a` leaves to read. -/
theorem readByte_writeBytes (b : Buffer) (a : Nat) (xs : List Byte) (i : Nat) :
    readByte (writeBytes b a xs) i =
      if a ≤ i ∧ i < a + xs.length ∧ i < Config.maxLen then xs[i - a]?.getD 0 else readByte b i := by
  induction xs generalizing b a with
  | nil => simp only [writeBytes, List.length_nil]; split <;> [omega; rfl]
  | cons x xs ih =>
    simp only [writeBytes, ih, readByte_writeByte, List.length_cons]
    by_cases h1 : a = i
    · subst h1
      by_cases h2 : a < Config.maxLen <;> simp [h2, show ¬(a + 1 ≤ a) by omega]
    · by_cases h2 : a + 1 ≤ i ∧ i < a + 1 + xs.length ∧ i < Config.maxLen
      · rw [if_pos h2, if_pos (by omega)]
        obtain ⟨k, hk⟩ : ∃ k, i - a = k + 1 := ⟨i - a - 1, by omega⟩
        rw [hk, show i - (a + 1) = k by omega]
        simp
      · rw [if_neg h2, if_neg (by omega), if_neg (by omega)]

/-- Buffers that read alike are equal. -/
theorem buffer_ext {b c : Buffer} (h : ∀ i, i < Config.maxLen → readByte b i = readByte c i) :
    b = c := by
  apply Vector.ext
  intro i hi
  have := h i hi
  rwa [readByte_eq b hi, readByte_eq c hi] at this

@[simp] theorem length_slice (b : Buffer) (a c : Nat) :
    (slice b a c).length = min (c - a) (Config.maxLen - a) := by
  simp [slice]

/-- The bytes of a slice. -/
theorem getElem?_slice (b : Buffer) (a c k : Nat) :
    (slice b a c)[k]? =
      if a + k < c ∧ a + k < Config.maxLen then some (readByte b (a + k)) else none := by
  unfold slice
  by_cases h1 : k < c - a
  · rw [List.getElem?_take_of_lt h1, List.getElem?_drop]
    by_cases h2 : a + k < Config.maxLen
    · rw [if_pos ⟨by omega, h2⟩, readByte_eq b h2]
      simp [h2]
    · rw [if_neg (by omega)]
      exact List.getElem?_eq_none (by simp; omega)
  · rw [if_neg (by omega)]
    exact List.getElem?_eq_none (by simp; omega)

/-- Slices of buffers that read alike there are equal. -/
theorem slice_congr {b b' : Buffer} {a c : Nat}
    (h : ∀ i, a ≤ i → i < c → readByte b i = readByte b' i) : slice b a c = slice b' a c := by
  apply List.ext_getElem?
  intro k
  rw [getElem?_slice, getElem?_slice]
  split
  · rw [h _ (by omega) (by omega)]
  · rfl

/-- A slice's last byte. -/
theorem slice_succ (b : Buffer) (c : Nat) (h : c < Config.maxLen) :
    slice b 0 (c + 1) = slice b 0 c ++ [readByte b c] := by
  unfold slice
  rw [readByte_eq b h]
  simp only [List.drop_zero, Nat.sub_zero]
  rw [List.take_add_one]
  simp [h]

/-! ## Saturating counts -/

@[simp] theorem sat8_toNat (n : Nat) : (sat8 n).toNat = min n 255 := by
  simp only [sat8, BitVec.toNat_ofNat]
  omega

@[simp] theorem satInc_toNat (c : BitVec 8) : (satInc c).toNat = min (c.toNat + 1) 255 := by
  simp [satInc]

/-! ## The staged frame -/

@[simp] theorem length_stagedFrame (s : State) :
    (stagedFrame s).length = min s.rxLen.toNat Config.maxLen := by
  simp [stagedFrame]

theorem getElem?_stagedFrame (s : State) (k : Nat) :
    (stagedFrame s)[k]? =
      if k < min s.rxLen.toNat Config.maxLen then some (readByte s.rxBuf k) else none := by
  unfold stagedFrame
  rw [getElem?_slice]
  by_cases h : k < min s.rxLen.toNat Config.maxLen
  · rw [if_pos h, if_pos (by omega), Nat.zero_add]
  · rw [if_neg h, if_neg (by omega)]

/-! ## The source of a CRC command -/

/-- QUEUE_EMPTY, then RANGE, then the bytes (40_crc.md R98). -/
theorem source_spec (s : State) (buf : BufSel) (a b : Nat) :
    source s buf a b =
      if buf = .qh ∧ s.q = [] then .error .queueEmpty
      else if a + b > (bufferBytes s buf).length then .error .range
      else .ok (((bufferBytes s buf).drop a).take b) := by
  cases buf with
  | tx => simp [source, bufferBytes, slice]
  | rx => simp [source, bufferBytes, slice]
  | qh => cases hq : s.q <;> simp [source, bufferBytes, hq, Entry.n]

/-! ## The bus -/

theorem resetBlock_eq (s : State) :
    resetBlock s = State.afterReset s.cfg (s.resets + 1) s.pending s.responses := rfl

/-- What reset keeps: the configuration and the host's side. -/
@[simp] theorem resetBlock_cfg (s : State) : (resetBlock s).cfg = s.cfg := by
  rw [resetBlock_eq, State.afterReset_cfg]

@[simp] theorem resetBlock_pending (s : State) : (resetBlock s).pending = s.pending := by
  rw [resetBlock_eq, State.afterReset_pending]

@[simp] theorem resetBlock_responses (s : State) : (resetBlock s).responses = s.responses := by
  rw [resetBlock_eq, State.afterReset_responses]

@[simp] theorem resetBlock_resets (s : State) : (resetBlock s).resets = s.resets + 1 := by
  rw [resetBlock_eq, State.afterReset_resets]

theorem transaction_defined (off : Nat) (o : Host.Outcome State Fault Refusal)
    (h : off % 4 = 0) : transaction allLanes off o = o := by
  simp [transaction, h]

/-- What a transaction that answers next was. -/
theorem transaction_next {lanes : BitVec 4} {off : Nat} {o : Host.Outcome State Fault Refusal}
    {t : State} (h : transaction lanes off o = .next t) :
    off % 4 = 0 ∧ lanes = allLanes ∧ o = .next t := by
  unfold transaction at h
  split at h
  · cases h
  · split at h
    · cases h
    · exact ⟨by omega, by simp_all, h⟩

end Sys2Proof.Machine
end

