-- ==== Sys2Proof/Laws/Bus.lean ====
section
/-! SUPPORT. What a command, a host action and a step can do, said once: every command completes, and a
host action that completes is one of four. -/

namespace Sys2Proof.Machine

/-! ## The address map -/

/-- A named register stands at its own offset only. -/
theorem offset_of_target {off : Nat} {r : Reg} (h : target off = .reg r) : off = r.offset := by
  unfold target at h
  split at h
  · rename_i r' hf
    cases h
    have := List.find?_some hf
    exact (of_decide_eq_true this).symm
  · split at h <;> cases h

/-- Beyond the map every offset is unlisted (20_memory.md R57; log 8). -/
theorem target_beyond {off : Nat} (h : 0x400 ≤ off) : target off = .unmapped := by
  have hr : Reg.all.find? (fun r => r.offset = off) = none := by
    rw [List.find?_eq_none]
    intro r _ he
    have := of_decide_eq_true he
    cases r <;> simp only [Reg.offset] at this <;> omega
  have hw : ∀ b, windowIndex b off = none := by
    intro b
    cases b <;> simp only [windowIndex, window] <;> exact if_neg (by omega)
  simp [target, hr, hw]

/-! ## Commands -/

theorem runCommand_error {v : Word} {c : CmdError} (s : State) (h : decode v = .error c) :
    runCommand v s = .next (s.raise c v) := by
  simp [runCommand, h]

theorem runCommand_ok {v : Word} {i : Instr} (s : State) (h : decode v = .ok i) :
    runCommand v s = exec i s := by
  simp [runCommand, h]

/-- Every command completes (00_scope.md R15). -/
theorem exec_completes (i : Instr) (s : State) : ∃ t, exec i s = .next t := by
  cases i with
  | nop => exact ⟨_, rfl⟩
  | hdr mid idx => exact ⟨_, rfl⟩
  | fin f len => simp only [exec, execFin]; split <;> exact ⟨_, rfl⟩
  | crc8 b x y => simp only [exec, execCrc8]; split <;> exact ⟨_, rfl⟩
  | crc16 b x y => simp only [exec, execCrc16]; split <;> exact ⟨_, rfl⟩
  | arm => exact ⟨_, rfl⟩
  | disarm => exact ⟨_, rfl⟩
  | push => simp only [exec, execPush]; split <;> [skip; (split <;> [skip; split])] <;> exact ⟨_, rfl⟩
  | pop => simp only [exec, execPop]; split <;> exact ⟨_, rfl⟩
  | flush => exact ⟨_, rfl⟩

theorem runCommand_completes (v : Word) (s : State) : ∃ t, runCommand v s = .next t := by
  cases h : decode v with
  | error c => exact ⟨_, runCommand_error s h⟩
  | ok i => rw [runCommand_ok s h]; exact exec_completes i s

/-! ## Host actions -/

/-- A write of anything but CMD stores to its target. -/
theorem busWrite_store {off : Nat} (v : Word) (s : State) (h : target off ≠ .reg .cmd) :
    busWrite off v s = .next (writeTarget s v (target off)) := by
  unfold busWrite
  split
  · exact absurd (by assumption) h
  · rfl

/-- All a completed host action can have been: a reset, a Read, a command, or a store to a register or
window. -/
theorem perform_next_cases {a : HostAction} {s t : State} (h : perform a s = .next t) :
    (a = .reset ∧ t = resetBlock s) ∨
    (∃ off, a = .read allLanes off ∧ off % 4 = 0 ∧
      t = s.setResponses (s.responses ++ [readTarget s (target off)])) ∨
    (∃ v, a = .write allLanes 0x000 v ∧ runCommand v s = .next t) ∨
    (∃ off v, a = .write allLanes off v ∧ off % 4 = 0 ∧ target off ≠ .reg .cmd ∧
      t = writeTarget s v (target off)) := by
  cases a with
  | reset => exact .inl ⟨rfl, by simpa [perform] using h.symm⟩
  | read lanes off =>
    obtain ⟨ha, rfl, hn⟩ := transaction_next h
    exact .inr (.inl ⟨off, rfl, ha, by simpa [busRead] using hn.symm⟩)
  | write lanes off v =>
    obtain ⟨ha, rfl, hn⟩ := transaction_next h
    by_cases hc : target off = .reg .cmd
    · have h0 : off = 0x000 := offset_of_target hc
      subst h0
      exact .inr (.inr (.inl ⟨v, rfl, hn⟩))
    · rw [busWrite_store v s hc] at hn
      exact .inr (.inr (.inr ⟨off, v, rfl, ha, hc, by simpa using hn.symm⟩))

/-- A step performs the next action. -/
theorem step_performs {s : State} {a : HostAction} {rest : List HostAction}
    (h : s.pending = a :: rest) : step s = perform a (s.setPending rest) := by
  simp [step, performNext, h]

end Sys2Proof.Machine
end

