-- ==== Sys2Proof/Laws/Decode.lean ====
section
/-! SUPPORT. Fields of command words: every field as Nat arithmetic, the fields of `enc`, and a word from
its fields (30_encoding.md R75). -/

namespace Sys2Proof

theorem bits_le (v : Word) (hi lo : Nat) : bits v hi lo < 2 ^ (hi - lo + 1) :=
  Nat.mod_lt _ (Nat.two_pow_pos _)

theorem bits_op (v : Word) : bits v 3 0 = v.toNat % 16 := by simp [bits]
theorem bits_sel (v : Word) : bits v 5 4 = v.toNat / 16 % 4 := by simp [bits]
theorem bits_f (v : Word) : bits v 6 6 = v.toNat / 64 % 2 := by simp [bits]
theorem bits_7 (v : Word) : bits v 7 7 = v.toNat / 128 % 2 := by simp [bits]
theorem bits_a (v : Word) : bits v 15 8 = v.toNat / 256 % 256 := by simp [bits]
theorem bits_b (v : Word) : bits v 23 16 = v.toNat / 65536 % 256 := by simp [bits]
theorem bits_top (v : Word) : bits v 31 24 = v.toNat / 16777216 := by
  have := v.isLt
  simp only [bits]
  omega
theorem bits_rest (v : Word) : bits v 31 4 = v.toNat / 16 := by
  have := v.isLt
  simp only [bits]
  omega

theorem enc_toNat {op sel f a b : Nat} (h1 : op < 16) (h2 : sel < 4) (h3 : f < 2) (h4 : a < 256)
    (h5 : b < 256) :
    (enc op sel f a b).toNat = op + 16 * sel + 64 * f + 256 * a + 65536 * b := by
  simp only [enc, BitVec.toNat_ofNat]
  omega

/-- A command word is read back from its fields when its reserved bits are 0. -/
theorem enc_bits {v : Word} (h7 : bits v 7 7 = 0) (ht : bits v 31 24 = 0) :
    enc (bits v 3 0) (bits v 5 4) (bits v 6 6) (bits v 15 8) (bits v 23 16) = v := by
  rw [bits_7] at h7
  rw [bits_top] at ht
  apply BitVec.eq_of_toNat_eq
  rw [bits_op, bits_sel, bits_f, bits_a, bits_b, enc_toNat] <;> omega

theorem bool_toNat_lt (b : Bool) : b.toNat < 2 := by cases b <;> decide

theorem BufSel.code_lt (b : BufSel) : b.code < 3 := by cases b <;> decide

@[simp] theorem BufSel.ofCode_code (b : BufSel) : BufSel.ofCode b.code = some b := by
  cases b <;> rfl

theorem BufSel.code_of_ofCode {n : Nat} {b : BufSel} (h : BufSel.ofCode n = some b) :
    b.code = n := by
  unfold BufSel.ofCode at h
  split at h <;> simp_all <;> subst h <;> rfl

theorem BufSel.ofCode_none {n : Nat} (h : n < 4) : BufSel.ofCode n = none ↔ n = 3 := by
  have : n = 0 ∨ n = 1 ∨ n = 2 ∨ n = 3 := by omega
  rcases this with rfl | rfl | rfl | rfl <;> simp [BufSel.ofCode]

theorem Op.ofCode_none {n : Nat} : Op.ofCode n = none ↔ 10 ≤ n := by
  constructor
  · intro h
    by_contra hn
    have : n < 10 := by omega
    interval_cases n <;> simp [Op.ofCode] at h
  · intro h
    unfold Op.ofCode
    split <;> first | omega | rfl

end Sys2Proof
end

