-- ==== Sys2Proof/Laws/PerInstr.lean ====
section
/-! SUPPORT. Statements about every instruction as syntax, one lemma per constructor. -/

namespace Sys2Proof.Laws.Encoding

/-- OP of an instruction (30_encoding.md R76). -/
def opcode : Instr → Nat
  | .nop => 0x0
  | .hdr _ _ => 0x1
  | .fin _ _ => 0x2
  | .crc8 _ _ _ => 0x3
  | .crc16 _ _ _ => 0x4
  | .arm => 0x5
  | .disarm => 0x6
  | .push => 0x7
  | .pop => 0x8
  | .flush => 0x9

/-- A well-formed instruction's word has its OP, and its reserved bits are 0 (R76, R81). -/
def Statement (i : Instr) : Prop :=
  i.wellFormed = true →
    bits (encode i) 3 0 = opcode i ∧ bits (encode i) 7 7 = 0 ∧ bits (encode i) 31 24 = 0

/-- The claim for a word made of fields. -/
theorem of_fields {op sel f a b : Nat} (h1 : op < 16) (h2 : sel < 4) (h3 : f < 2) (h4 : a < 256)
    (h5 : b < 256) : bits (enc op sel f a b) 3 0 = op ∧ bits (enc op sel f a b) 7 7 = 0 ∧
      bits (enc op sel f a b) 31 24 = 0 := by
  rw [bits_op, bits_7, bits_top, enc_toNat h1 h2 h3 h4 h5]
  omega

theorem nop : Statement .nop := fun _ => of_fields (by omega) (by omega) (by omega) (by omega) (by omega)

theorem hdr (mid idx : Nat) : Statement (.hdr mid idx) := fun h => by
  simp only [Instr.wellFormed, fitsField, Bool.and_eq_true, decide_eq_true_eq] at h
  exact of_fields (by omega) (by omega) (by omega) h.1 h.2

theorem fin (includeCrc16 : Bool) (len : Nat) : Statement (.fin includeCrc16 len) := fun h => by
  simp only [Instr.wellFormed, fitsField, decide_eq_true_eq] at h
  exact of_fields (by omega) (by omega) (bool_toNat_lt _) h (by omega)

theorem crc8 (buf : BufSel) (start count : Nat) : Statement (.crc8 buf start count) := fun h => by
  simp only [Instr.wellFormed, fitsField, Bool.and_eq_true, decide_eq_true_eq] at h
  exact of_fields (by omega) (Nat.lt_succ_of_lt buf.code_lt) (by omega) h.1 h.2

theorem crc16 (buf : BufSel) (start count : Nat) : Statement (.crc16 buf start count) := fun h => by
  simp only [Instr.wellFormed, fitsField, Bool.and_eq_true, decide_eq_true_eq] at h
  exact of_fields (by omega) (Nat.lt_succ_of_lt buf.code_lt) (by omega) h.1 h.2

theorem arm : Statement .arm := fun _ => of_fields (by omega) (by omega) (by omega) (by omega) (by omega)

theorem disarm : Statement .disarm := fun _ =>
  of_fields (by omega) (by omega) (by omega) (by omega) (by omega)

theorem push : Statement .push := fun _ =>
  of_fields (by omega) (by omega) (by omega) (by omega) (by omega)

theorem pop : Statement .pop := fun _ => of_fields (by omega) (by omega) (by omega) (by omega) (by omega)

theorem flush : Statement .flush := fun _ =>
  of_fields (by omega) (by omega) (by omega) (by omega) (by omega)

end Sys2Proof.Laws.Encoding
end

