-- ==== Sys2Proof/Tests/Slice0.lean ====
section
/-! SUPPORT. The model's own tests: one step each, expected values from spec/95_test_vectors.md, the
encodings of 30_encoding.md and the rules' examples; and for each obligation with hypotheses a witness
that meets them. -/

namespace Sys2Proof.Machine.Tests

/-! ## Helpers -/

/-- Whether an outcome is a next state that passes a check. -/
def nextMeets (o : Host.Outcome State Fault Refusal) (p : State → Bool) : Bool :=
  match o with
  | .next t => p t
  | .fault _ => false
  | .refused _ => false

/-- A buffer from its first bytes, zeros behind them. -/
def bufferOf (l : List Byte) : Buffer := Vector.ofFn fun i => l[i.val]?.getD 0

/-- The common setup of 95_test_vectors.md, with known buffers. -/
def setup : State :=
  { State.reset with
    txBuf := bufferOf [], rxBuf := bufferOf [], invAddr := 0x72345678, stnAddr := 0x12345678 }

/-- Frame fs of 95_test_vectors.md: single frame, index 0x81. -/
def fs : List Byte := [0x95, 0x72, 0x34, 0x56, 0x78, 0x78, 0x56, 0x34, 0x12, 0x81, 0x00, 0x01, 0x75]

/-- Frame f80: index 0x80, not last. -/
def f80 : List Byte := [0x95, 0x72, 0x34, 0x56, 0x78, 0x78, 0x56, 0x34, 0x12, 0x80, 0x00, 0x01, 0x74]

/-- Frame fx: a foreign inverter address. -/
def fx : List Byte := [0x95, 0x72, 0x34, 0x56, 0x79, 0x78, 0x56, 0x34, 0x12, 0x01, 0xAA, 0xBB, 0xE4]

/-- After `ARM; STAGE n, 0xA5, frame`. -/
def staged (n : BitVec 8) (frame : List Byte) : State :=
  { setup with fsm := .listen, rxBuf := bufferOf frame, rxLen := n, rxMeta := 0xA5 }

/-- The entry of fs as PUSH queues it. -/
def fsEntry : Entry :=
  { data := fs, inlen := 13, trunc := false, crc8ok := true, last := true, metaWord := 0xA5 }

/-- The entry of f80. -/
def f80Entry : Entry := { fsEntry with data := f80, last := false }

/-- The state after fs was queued. -/
def afterFs : State :=
  { staged 13 fs with
    fsm := .done, lastSeen := true, expCnt := 1, framesRx := 1, result := 1, q := [fsEntry] }

/-- The registers 95_test_vectors.md 2.4 lists. -/
def registers (s : State) : List Word :=
  [readReg s .result, readReg s .status, readReg s .reasm, readReg s .diag, readReg s .qstat,
   readReg s .qmeta]

/-! ## WellFormed refuses what an assembler rejects (R88) -/

theorem test_ill_formed_hdr_mid : (Instr.hdr 256 0).wellFormed = false := by decide
theorem test_ill_formed_hdr_idx : (Instr.hdr 0 256).wellFormed = false := by decide
theorem test_ill_formed_fin_len : (Instr.fin true 256).wellFormed = false := by decide
theorem test_ill_formed_crc8_start : (Instr.crc8 .tx 256 0).wellFormed = false := by decide
theorem test_ill_formed_crc8_count : (Instr.crc8 .rx 0 256).wellFormed = false := by decide
theorem test_ill_formed_crc16_start : (Instr.crc16 .qh 256 0).wellFormed = false := by decide
theorem test_ill_formed_crc16_count : (Instr.crc16 .tx 0 300).wellFormed = false := by decide

/-! ## Decoding: words written out field by field, top byte, B, A, bit 7, F, SEL, OP (R75, R76) -/

theorem test_decode_nop : decode (0x00#8 ++ 0x00#8 ++ 0x00#8 ++ 0#1 ++ 0#1 ++ 0#2 ++ 0x0#4) = .ok .nop := by
  decide
theorem test_decode_hdr :
    decode (0x00#8 ++ 0x80#8 ++ 0x15#8 ++ 0#1 ++ 0#1 ++ 0#2 ++ 0x1#4) = .ok (.hdr 0x15 0x80) := by decide
theorem test_decode_fin :
    decode (0x00#8 ++ 0x00#8 ++ 0x1A#8 ++ 0#1 ++ 1#1 ++ 0#2 ++ 0x2#4) = .ok (.fin true 26) := by decide
theorem test_decode_fin_plain :
    decode (0x00#8 ++ 0x00#8 ++ 0x0B#8 ++ 0#1 ++ 0#1 ++ 0#2 ++ 0x2#4) = .ok (.fin false 11) := by decide
theorem test_decode_crc8 :
    decode (0x00#8 ++ 0x1C#8 ++ 0x03#8 ++ 0#1 ++ 0#1 ++ 1#2 ++ 0x3#4) = .ok (.crc8 .rx 3 28) := by decide
theorem test_decode_crc16 :
    decode (0x00#8 ++ 0x10#8 ++ 0x0A#8 ++ 0#1 ++ 0#1 ++ 2#2 ++ 0x4#4) = .ok (.crc16 .qh 10 16) := by decide
theorem test_decode_arm : decode (0x00#8 ++ 0x00#8 ++ 0x00#8 ++ 0#1 ++ 0#1 ++ 0#2 ++ 0x5#4) = .ok .arm := by
  decide
theorem test_decode_disarm :
    decode (0x00#8 ++ 0x00#8 ++ 0x00#8 ++ 0#1 ++ 0#1 ++ 0#2 ++ 0x6#4) = .ok .disarm := by decide
theorem test_decode_push : decode (0x00#8 ++ 0x00#8 ++ 0x00#8 ++ 0#1 ++ 0#1 ++ 0#2 ++ 0x7#4) = .ok .push := by
  decide
theorem test_decode_pop : decode (0x00#8 ++ 0x00#8 ++ 0x00#8 ++ 0#1 ++ 0#1 ++ 0#2 ++ 0x8#4) = .ok .pop := by
  decide
theorem test_decode_flush :
    decode (0x00#8 ++ 0x00#8 ++ 0x00#8 ++ 0#1 ++ 0#1 ++ 0#2 ++ 0x9#4) = .ok .flush := by decide
theorem test_decode_illegal_before_reserved : decode 0x0000008A = .error .illegalOp := by decide
theorem test_decode_table_word : decodeTableWord 32 0x001C0003 = some (.crc8 .tx 0 28) := by decide
theorem test_decode_table_word_refused : decodeTableWord 32 0x00000033 = none := by decide

/-! ## Commands (95_test_vectors.md 2.1 to 2.6) -/

theorem test_crc_check_values :
    crc8 Config.thisHardware [0x31, 0x32, 0x33, 0x34, 0x35, 0x36, 0x37, 0x38, 0x39] = 0x31 ∧
    crc16 Config.thisHardware 0xFFFF [0x31, 0x32, 0x33, 0x34, 0x35, 0x36, 0x37, 0x38, 0x39] = 0x4B37 := by
  decide +kernel

theorem test_nop_first_after_reset :
    nextMeets (step (State.reset.withFetchWord 32 0)) (fun t => decide (t.result = 0) && t.pending.isEmpty)
      = true := by decide +kernel

theorem test_hdr :
    nextMeets (exec (.hdr 0x15 0x80) { setup with txBuf := bufferOf (List.replicate 32 0xFF), txLen := 9 })
      (fun t => decide (t.txBuf = bufferOf [0x15, 0x72, 0x34, 0x56, 0x78, 0x78, 0x56, 0x34, 0x12, 0x80])
        && decide (t.txLen = 0)) = true := by decide +kernel

/-- TXBUF of the FIN example of R104. -/
def finExample : State :=
  { setup with
    txBuf := bufferOf [0x15, 0x72, 0x34, 0x56, 0x78, 0x78, 0x56, 0x34, 0x12, 0x80, 0x0B, 0x00, 0x65, 0x4A,
      0x17, 0x23] }

theorem test_fin_crc16 :
    nextMeets (exec (.fin true 26) finExample)
      (fun t => decide (slice t.txBuf 26 32 = [0xD8, 0xEA, 0xD7, 0, 0, 0]) && decide (t.txLen = 29)
        && decide (t.result = 29)) = true := by decide +kernel

theorem test_fin_overflow :
    nextMeets (exec (.fin true 30) finExample)
      (fun t => decide (statusWord t = 0x41) && decide (t.errCmd = 0x00001E42)
        && decide (t.txBuf = finExample.txBuf)) = true := by decide +kernel

theorem test_crc8_tx :
    nextMeets (exec (.crc8 .tx 0 3) { setup with txBuf := bufferOf [0x01, 0x02, 0x04] })
      (fun t => decide (t.result = 0x00000007)) = true := by decide +kernel

theorem test_crc8_queue_empty_before_range :
    nextMeets (exec (.crc8 .qh 0 40) setup)
      (fun t => decide (statusWord t = 0x51) && decide (t.errCmd = 0x00280023)) = true := by decide +kernel

theorem test_crc16_rx :
    nextMeets (exec (.crc16 .rx 0 9)
        { setup with rxBuf := bufferOf [0x31, 0x32, 0x33, 0x34, 0x35, 0x36, 0x37, 0x38, 0x39] })
      (fun t => decide (t.crc16Acc = 0x4B37) && decide (t.result = 0x00004B37)) = true := by decide +kernel

theorem test_crc16_range_of_head :
    nextMeets (exec (.crc16 .qh 0 14) afterFs)
      (fun t => decide (statusWord t = 0x31) && decide (t.errCmd = 0x000E0024)
        && decide (t.crc16Acc = 0xFFFF)) = true := by decide +kernel

theorem test_arm :
    nextMeets (exec .arm { afterFs with ignCnt := 7 })
      (fun t => decide (registers t = [1, 0, 0x00000001, 0, 0x0D060D01, 0xA5])) = true := by decide +kernel

theorem test_disarm :
    nextMeets (exec .disarm { afterFs with expCnt := 5, framesRx := 5 })
      (fun t => decide (reasmWord t = 0x00050504)) = true := by decide +kernel

theorem test_push_last :
    nextMeets (exec .push (staged 13 fs))
      (fun t => decide (registers t = [1, 0, 0x00010106, 0, 0x0D060D01, 0xA5])) = true := by decide +kernel

/-- Of 40 bytes the first 32 are queued: f80's first five, then zeros. Their last byte is 0, and the CRC-8 of the
31 before it is their XOR, 0xFD (R95 b, R110). -/
theorem test_push_truncated :
    nextMeets (exec .push (staged 40 (f80.take 5)))
      (fun t => decide (readReg t .qstat = 0x28012001)) = true := by decide +kernel

theorem test_pop :
    nextMeets (exec .pop { afterFs with q := [f80Entry, fsEntry] })
      (fun t => decide (t.q = [fsEntry])) = true := by decide +kernel

theorem test_pop_empty :
    nextMeets (exec .pop setup)
      (fun t => decide (statusWord t = 0x51) && decide (t.errCmd = 0x00000008)) = true := by decide +kernel

theorem test_flush :
    nextMeets (exec .flush { afterFs with q := [f80Entry, fsEntry] })
      (fun t => decide (qstatWord t = 0x00080000) && decide (reasmWord t = 0x00010106)) = true := by
  decide +kernel

/-! ## Bus (95_test_vectors.md 2.6, 2.7) -/

theorem test_illegal_op_recorded :
    nextMeets (step (State.reset.withFetchWord 32 0x0000000F))
      (fun t => decide (statusWord t = 0x11) && decide (t.errCmd = 0x0000000F)) = true := by decide +kernel

theorem test_status_write_clears_one_bit :
    nextMeets (perform (.write allLanes 0x004 0x2) { setup with ovfSt := true, ignSt := true })
      (fun t => decide (statusWord t = 0x4)) = true := by decide +kernel

theorem test_param_read :
    nextMeets (perform (.read allLanes 0x038) State.reset)
      (fun t => decide (t.responses = [0x00010420])) = true := by decide +kernel

theorem test_rx_len_write :
    nextMeets (perform (.write allLanes 0x020 0x12345628) setup)
      (fun t => decide (readTarget t (target 0x020) = 0x28)) = true := by decide +kernel

theorem test_window_write :
    nextMeets (perform (.write allLanes 0x10C 0x1FF) setup)
      (fun t => decide (readTarget t (target 0x10C) = 0xFF)) = true := by decide +kernel

theorem test_misaligned_read_refused : perform (.read allLanes 0x002) setup = .refused (.misalignedAccess 2) := by
  rfl

theorem test_assembler_rejects : expand (.command (.fin true 256)) = none := by decide

/-! ## Witnesses: a state and operands that meet each obligation's hypotheses -/

theorem afterFs_entry_ok : fsEntry.Ok afterFs.cfg where
  len := by decide
  showsAddress := by decide
  trunc_iff := by decide
  crc8ok_iff := by decide +kernel
  last_iff := by decide

theorem witness_inv : afterFs.Inv where
  cfg := by decide
  txLen := by decide
  depth := by decide
  entries := by
    intro e he
    rw [List.mem_singleton.mp he]
    exact afterFs_entry_ok
  error := ⟨by decide, by decide⟩
  attempt := ⟨by decide, by decide, by decide, by decide⟩

theorem witness_inv_empty_queue : { setup with txLen := 32 }.Inv where
  cfg := by decide
  txLen := by decide
  depth := by decide
  entries := by intro e he; cases he
  error := ⟨by decide, by decide⟩
  attempt := ⟨by decide, by decide, by decide, by decide⟩

/-- ResetGivesResetValues, both ways to a state right after reset. -/
theorem witness_reset : State.reset.cfg.wf = true ∧ perform .reset afterFs = .next (resetBlock afterFs) ∧
    (resetBlock afterFs).cfg.wf = true := ⟨by decide, rfl, by decide⟩

/-- CountersCount, FsmTransitions: a transaction that is no write of CMD. -/
theorem witness_other_action :
    nextMeets (perform (.write allLanes 0x02C 0xFFFFFFFF) { afterFs with ovfCnt := 3 })
      (fun t => decide (diagWord t = 0x00000300)) = true := by decide +kernel

/-- ConfigurationIsFixed. -/
theorem witness_cfg_wf : setup.cfg.wf = true ∧ Config.wf { setup.cfg with queueDepth := 1 } = true ∧
    Config.wf { setup.cfg with queueDepth := 255 } = true := by decide

/-- HostReachesResetValues, and the default parameters of CrcProperties and FinishedFrameChecks. -/
theorem witness_default_crc : setup.cfg.crc16Init = 0xFFFF ∧ setup.cfg.crc8Init = 0x00 ∧
    setup.cfg.crc8Poly = 0x01 := by decide

/-- StepRunsDecodedCommand, both clauses; InstructionErrorsArePrecise's and FsmTransitions' decoding clauses. -/
theorem witness_pending_command :
    (setup.withFetchWord 32 7).pending = .write allLanes 0x000 7 :: setup.pending ∧
    decode 7 = .ok .push ∧
    (setup.withFetchWord 32 0x8A).pending = .write allLanes 0x000 0x8A :: setup.pending ∧
    decode 0x8A = .error .illegalOp := by decide +kernel

/-- StepTakesActionsInOrder. -/
theorem witness_pending_none : setup.pending = [] ∧
    nextMeets (step { setup with pending := [.reset, .reset] }) (fun t => decide (t.pending = [.reset]))
      = true := by decide +kernel

/-- DecodeTestsInOrder and ReservedEncodingsRaise: a word for each clause, OP 9 and 10 at the boundary. -/
theorem witness_decode_clauses :
    10 ≤ bits 0x0000000A 3 0 ∧
    (bits 0x00000089 3 0 < 10 ∧ bits 0x00000089 7 7 ≠ 0) ∧
    (bits 0x01000009 3 0 = 9 ∧ bits 0x01000009 31 24 ≠ 0) ∧
    (bits 0x00000019 7 7 = 0 ∧ bits 0x00000019 31 24 = 0 ∧ bits 0x00000019 3 0 = 9 ∧
      bits 0x00000019 31 4 ≠ 0 ∧ bits 0x00000019 5 4 ≠ 0) ∧
    (bits 0x00FFFF01 7 7 = 0 ∧ bits 0x00FFFF01 31 24 = 0 ∧ bits 0x00FFFF01 3 0 = 1) ∧
    (bits 0x0000FF42 7 7 = 0 ∧ bits 0x0000FF42 31 24 = 0 ∧ bits 0x0000FF42 3 0 = 2) ∧
    (bits 0x00000043 3 0 = 3 ∧ bits 0x00000043 6 6 ≠ 0 ∧ bits 0x00000043 3 0 ≠ 2) ∧
    (bits 0x00000034 3 0 = 4 ∧ bits 0x00000034 5 4 = 3) ∧
    (bits 0x00FFFF23 6 6 = 0 ∧ bits 0x00FFFF23 5 4 = BufSel.qh.code ∧ bits 0x00FFFF23 3 0 = 3) ∧
    (bits 0x00000014 6 6 = 0 ∧ bits 0x00000014 5 4 = BufSel.rx.code ∧ bits 0x00000014 3 0 = 4) ∧
    (bits 0x00010002 23 16 ≠ 0 ∧ bits 0x00010002 3 0 = 2) ∧
    (bits 0x00000105 15 8 ≠ 0 ∧ 5 ≤ bits 0x00000105 3 0) := by decide

/-- DecodeOfEncodeIsIdentity at the largest operands, EncodeOfDecodeIsIdentity. -/
theorem witness_round_trip : (Instr.crc16 .qh 255 255).wellFormed = true ∧
    decode (encode (.crc16 .qh 255 255)) = .ok (.crc16 .qh 255 255) := by decide

/-- FirstErrorIsRecorded, ReservedEncodingsRaise, ErrorStaysAndBlocksNothing: a state without and one with a
recorded error, and a STATUS write that clears it. -/
theorem witness_error_states : setup.err = false ∧ (setup.raise .reserved 0x80).err = true ∧
    bits 0x00000001 0 0 = 1 ∧
    nextMeets (perform (.write allLanes 0x004 1) (setup.raise .reserved 0x80)) (fun t => !t.err) = true := by
  decide +kernel

/-- ErroneousCommandChangesOnlyRecord and FsmTransitions: a word the decoder refuses, one whose instruction raises
(in a state with ERR = 0 and in one with ERR = 1), and one that raises nothing. -/
theorem witness_raises : Raises setup 0x8A .illegalOp ∧ setup.err = false ∧ Raises setup 0x08 .queueEmpty ∧
    Raises (setup.raise .reserved 0x80) 0x08 .queueEmpty ∧ (setup.raise .reserved 0x80).err = true ∧
    ∀ c, ¬Raises afterFs 0x08 c := by
  refine ⟨.inl (by decide), by decide, .inr ⟨.pop, by decide, by decide⟩, .inr ⟨.pop, by decide, by decide⟩,
    by decide, ?_⟩
  rintro c (h | ⟨i, h, h'⟩)
  · rw [show decode 0x08 = .ok .pop by decide] at h; cases h
  · rw [show decode 0x08 = .ok .pop by decide] at h; cases h
    rw [show ownError afterFs .pop = none by decide] at h'; cases h'

/-- InstructionErrorsArePrecise and ResultWrittenOnlyByNamedCommands: raising and not raising. -/
theorem witness_own_error : ownError setup .pop = some .queueEmpty ∧ ownError afterFs .pop = none ∧
    ownError setup (.crc8 .qh 0 40) = some .queueEmpty ∧ ownError afterFs (.crc8 .qh 0 14) = some .range := by
  decide

/-- NopDoesNothing, and the reserved words of ARM, DISARM, PUSH, POP and FLUSH. -/
theorem witness_reserved_words :
    (bits 0x00000010 3 0 = 0 ∧ bits 0x00000010 31 4 ≠ 0) ∧ (bits 0x00000105 3 0 = 5 ∧ bits 0x00000105 31 4 ≠ 0) ∧
    (bits 0x80000006 3 0 = 6 ∧ bits 0x80000006 31 4 ≠ 0) ∧ (bits 0x01000007 3 0 = 7 ∧ bits 0x01000007 31 4 ≠ 0) ∧
    (bits 0x00000018 3 0 = 8 ∧ bits 0x00000018 31 4 ≠ 0) ∧ (bits 0x00000049 3 0 = 9 ∧ bits 0x00000049 31 4 ≠ 0) := by
  decide

/-- HdrBuildsHeader: the largest operands, and words on both sides of its test. -/
theorem witness_hdr : 255 < 256 ∧ (bits 0x00FFFF01 3 0 = 1 ∧ bits 0x00FFFF01 6 6 = 0) ∧
    (bits 0x00000041 3 0 = 1 ∧ bits 0x00000041 6 6 ≠ 0) := by decide

/-- FinAppendsCrcsOrOverflows, FinishedFrameChecks, OwnFramePassesAddressCheck, ConsumerChecksCrc16: the longest
frames that fit, the shortest that do not, and the shortest with a CRC-16. -/
theorem witness_fin : finLength true 29 = 32 ∧ finLength false 31 = 32 ∧ finLength true 30 = 33 ∧
    finLength false 32 = 33 ∧ finLength true 10 = 11 ∧ finLength true 11 = 14 ∧
    ownError setup (.fin true 29) = none ∧ ownError setup (.fin false 10) = none ∧
    (bits 0x00010002 3 0 = 2 ∧ bits 0x00010002 23 16 ≠ 0) ∧ (bits 0x00001A42 3 0 = 2) := by decide

/-- OwnFramePassesAddressCheck's last premises: a state that stages the finished frame. -/
theorem witness_own_frame :
    nextMeets (exec (.hdr 0x95 0x81) setup) (fun t => nextMeets (exec (.fin false 12) t) (fun u =>
      addressOk setup.invAddr (stagedFrame { setup with rxBuf := u.txBuf, rxLen := u.txLen }))) = true := by
  decide +kernel

/-- Crc8CommandResult, Crc16CommandResult, CrcSourceRange: the end of each limit, one past it, an empty queue. -/
theorem witness_crc_ranges :
    0 + 32 ≤ (bufferBytes setup .tx).length ∧ 1 + 32 > (bufferBytes setup .rx).length ∧
    (setup.q = [] ∧ afterFs.q = [fsEntry]) ∧ 13 + 0 ≤ (bufferBytes afterFs .qh).length ∧
    13 + 1 > (bufferBytes afterFs .qh).length ∧ ¬(BufSel.qh = .qh ∧ afterFs.q = []) := by decide

/-- PushDropsForeignFrame: staged bytes of another inverter, and a frame one byte too short. -/
theorem witness_foreign : (staged 13 fx).fsm = .listen ∧ ¬StagedAddressPasses (staged 13 fx) ∧
    ¬StagedAddressPasses (staged 4 fs) := by
  unfold StagedAddressPasses
  decide +kernel

theorem staged_fs_passes : StagedAddressPasses (staged 13 fs) := by
  unfold StagedAddressPasses
  decide +kernel

theorem staged_five_bytes_pass : StagedAddressPasses (staged 5 fs) := by
  unfold StagedAddressPasses
  decide +kernel

theorem staged_f80_passes : StagedAddressPasses (staged 13 f80) := by
  unfold StagedAddressPasses
  decide +kernel

/-- PushIsIgnoredUnlessListening. -/
theorem witness_not_listening : setup.fsm ≠ .listen ∧ afterFs.fsm ≠ .listen := by decide

/-- PushDropsOnFullQueue, PushCheckOrderAndOutcome, CountersCount, StickyBitsStayUntilCleared: a full queue. -/
theorem witness_full_queue :
    let s := { staged 13 fs with q := List.replicate 4 f80Entry }
    s.fsm = .listen ∧ StagedAddressPasses s ∧ s.q.length = s.cfg.queueDepth :=
  ⟨rfl, staged_fs_passes, by decide⟩

/-- PushQueuesFrame: a last frame (index 0x81), one that is not (index 0x80), and one of 5 bytes. -/
theorem witness_queued : (staged 13 fs).fsm = .listen ∧ StagedAddressPasses (staged 13 fs) ∧
    StagedLast (staged 13 fs) ∧ StagedAddressPasses (staged 13 f80) ∧ ¬StagedLast (staged 13 f80) ∧
    StagedAddressPasses (staged 5 fs) ∧ (staged 13 fs).q.length ≠ (staged 13 fs).cfg.queueDepth := by
  refine ⟨rfl, staged_fs_passes, ?_, staged_f80_passes, ?_, staged_five_bytes_pass, by decide⟩
  · unfold StagedLast; decide +kernel
  · unfold StagedLast; decide +kernel

/-- PopRemovesHead, ConsumerChecksCrc8, QueueRegisters: a queue with a head. -/
theorem witness_head : afterFs.q = fsEntry :: [] ∧ afterFs.Inv := ⟨rfl, witness_inv⟩

/-- QueueChangesOnlyByItsCommands, ForeignFrameIsNeverQueued: an action of each kind answers next. -/
theorem witness_queue_changes :
    nextMeets (perform (.write allLanes 0x000 7) (staged 13 fs)) (fun t => decide (t.q.length = 1)) = true ∧
    nextMeets (perform (.write allLanes 0x000 8) afterFs) (fun t => decide (t.q = [])) = true ∧
    nextMeets (perform (.write allLanes 0x000 9) afterFs) (fun t => decide (t.q = [])) = true ∧
    nextMeets (perform .reset afterFs) (fun t => decide (t.q = [])) = true := by decide +kernel

/-- LastSeenStaysUntilArmOrReset: seen, kept by DISARM, cleared by ARM. -/
theorem witness_last_seen : afterFs.Inv ∧ afterFs.lastSeen = true ∧
    nextMeets (perform (.write allLanes 0x000 6) afterFs) (fun t => t.lastSeen) = true ∧
    nextMeets (perform (.write allLanes 0x000 5) afterFs) (fun t => !t.lastSeen) = true :=
  ⟨witness_inv, by decide, by decide +kernel, by decide +kernel⟩

/-- StickyBitsStayUntilCleared: set by an ignored PUSH, cleared by STATUS. -/
theorem witness_sticky :
    nextMeets (perform (.write allLanes 0x000 7) setup) (fun t => t.ignSt) = true ∧
    nextMeets (perform (.write allLanes 0x004 6) { setup with ovfSt := true, ignSt := true })
      (fun t => !t.ovfSt && !t.ignSt) = true ∧
    bits 0x00000006 1 1 = 1 ∧ bits 0x00000006 2 2 = 1 := by decide +kernel

/-- CompletionAfterExactlyNPushes with N = 3: a frame of index 0x80, one of 9 bytes before a stale byte 0x81, and one of
index 0x83. -/
theorem witness_completion :
    let f : ArrivingFrame := ⟨bufferOf f80, 13, 0x11⟩
    let e : ArrivingFrame := ⟨bufferOf fs, 9, 0x22⟩
    let g : ArrivingFrame := ⟨writeByte (bufferOf fs) 9 0x83, 10, 0x33⟩
    [f, e].length + 1 = 3 ∧ setup.q.length + 3 ≤ setup.cfg.queueDepth ∧
    (StagedAddressPasses (stageFrame setup f) ∧ StagedAddressPasses (stageFrame setup e) ∧
      StagedAddressPasses (stageFrame setup g)) ∧
    (readByte f.bytes 9).toNat ≤ 0x80 ∧ ¬10 ≤ e.len.toNat ∧ 0x80 < (readByte e.bytes 9).toNat ∧
    (readByte g.bytes 9).toNat = 0x80 + 3 ∧ 10 ≤ g.len.toNat := by
  unfold StagedAddressPasses
  decide +kernel

/-- DefinedActionsComplete, ReadHasNoSideEffect: the first and the last offset of the map, and one beyond it. -/
theorem witness_defined : (HostAction.read allLanes 0x3FC).defined = true ∧
    (HostAction.read allLanes 0x400).defined = true ∧
    (HostAction.write allLanes 0x000 0x80).defined = true ∧ HostAction.reset.defined = true := by decide

/-- UndefinedAccessesAreRefused and OffsetsBeyondMapReadZero: each clause, one past the map. -/
theorem witness_undefined : 0x002 % 4 ≠ 0 ∧ (0x004 % 4 = 0 ∧ (0x7 : BitVec 4) ≠ 0xF) ∧
    (0x400 % 4 = 0 ∧ 0x400 ≤ 0x400) := by decide

/-- AddressMap: both ends of its unmapped ranges, and the windows' last words. -/
theorem witness_unmapped : target 0x03C = .unmapped ∧ target 0x0FC = .unmapped ∧ target 0x180 = .unmapped ∧
    target 0x1FC = .unmapped ∧ target 0x280 = .unmapped ∧ target 0x2FC = .unmapped ∧
    target 0x380 = .unmapped ∧ target 0x3FC = .unmapped ∧ target 0x400 = .unmapped ∧ target 0x17C = .byte .tx 31 ∧
    target 0x27C = .byte .rx 31 ∧ target 0x37C = .byte .qh 31 := by decide +kernel

/-- WritesAreIdempotent. -/
theorem witness_write : 0x018 ≠ 0x000 ∧
    nextMeets (perform (.write allLanes 0x018 0xABCD1234) setup) (fun t => decide (t.crc16Acc = 0x1234)) = true := by
  decide +kernel

/-- StageLoadsFrame: a frame that fits, and an oversized one of which 32 bytes are written. -/
theorem witness_stage : (13 : Word).toNat < 256 ∧ fs.length = min (13 : Word).toNat 32 ∧
    (255 : Word).toNat < 256 ∧ (List.replicate 32 (0 : Byte)).length = min (255 : Word).toNat 32 := by decide

/-- StepKeepsInvariant and ConfigurationIsFixed: a state that meets the invariant and takes a step. -/
theorem witness_step : { afterFs with pending := [.write allLanes 0x000 8] }.Inv ∧
    nextMeets (step { afterFs with pending := [.write allLanes 0x000 8] }) (fun t => decide (t.q = [])) = true := by
  refine ⟨⟨witness_inv.cfg, witness_inv.txLen, witness_inv.depth, witness_inv.entries, ?_, ?_⟩, by decide +kernel⟩
  · exact ⟨by decide, by decide⟩
  · exact ⟨by decide, by decide, by decide, by decide⟩

end Sys2Proof.Machine.Tests
end

section
/-! PROOFS. The layer under the statements about the state (10_state.md): the frame predicates as equations,
the address map from the registers' side, the word a decoded command has, and what a command can do. -/

namespace Sys2Proof

/-! ## Decoding, from the instruction back to the word -/

/-- OP of an operation (30_encoding.md R76), the inverse of `Op.ofCode`. -/
def Op.code : Op → Nat
  | .nop => 0
  | .hdr => 1
  | .fin => 2
  | .crc8 => 3
  | .crc16 => 4
  | .arm => 5
  | .disarm => 6
  | .push => 7
  | .pop => 8
  | .flush => 9

theorem Op.code_of_ofCode {n : Nat} {op : Op} (h : Op.ofCode n = some op) : n = op.code := by
  unfold Op.ofCode at h
  split at h <;> cases h <;> rfl

theorem decodeBare_ok {v : Word} {i j : Instr} (h : decodeBare v i = .ok j) :
    j = i ∧ bits v 31 4 = 0 := by
  unfold decodeBare at h
  split at h
  · cases h
  · exact ⟨by cases h; rfl, by omega⟩

theorem decodeHdr_ok {v : Word} {j : Instr} (h : decodeHdr v = .ok j) :
    j = .hdr (bits v 15 8) (bits v 23 16) ∧ bits v 5 4 = 0 ∧ bits v 6 6 = 0 := by
  unfold decodeHdr at h
  split at h
  · cases h
  · exact ⟨by cases h; rfl, by omega, by omega⟩

theorem decodeFin_ok {v : Word} {j : Instr} (h : decodeFin v = .ok j) :
    j = .fin (decide (bits v 6 6 = 1)) (bits v 15 8) ∧ bits v 5 4 = 0 ∧ bits v 23 16 = 0 := by
  unfold decodeFin at h
  split at h
  · cases h
  · exact ⟨by cases h; rfl, by omega, by omega⟩

theorem decodeCrc_ok {v : Word} {mk : BufSel → Nat → Nat → Instr} {j : Instr}
    (h : decodeCrc v mk = .ok j) :
    ∃ b : BufSel, j = mk b (bits v 15 8) (bits v 23 16) ∧ b.code = bits v 5 4 ∧ bits v 6 6 = 0 := by
  unfold decodeCrc at h
  split at h
  · cases h
  · rename_i b hb
    split at h
    · cases h
    · exact ⟨b, by cases h; rfl, BufSel.code_of_ofCode hb, by omega⟩

/-- With nothing above OP every other field is 0. -/
theorem bare_fields {v : Word} (h : bits v 31 4 = 0) :
    bits v 5 4 = 0 ∧ bits v 6 6 = 0 ∧ bits v 15 8 = 0 ∧ bits v 23 16 = 0 := by
  rw [bits_rest] at h
  rw [bits_sel, bits_f, bits_a, bits_b]
  omega

theorem decide_flag_toNat (v : Word) : (decide (bits v 6 6 = 1)).toNat = bits v 6 6 := by
  have : bits v 6 6 = 0 ∨ bits v 6 6 = 1 := by rw [bits_f]; omega
  rcases this with h | h <;> simp [h]

/-- A word that decodes is the encoding of what it decodes to (R82, R85, R87). -/
theorem encode_of_decode {v : Word} {i : Instr} (h : decode v = .ok i) : encode i = v := by
  unfold decode at h
  split at h
  · cases h
  · rename_i op hop
    split at h
    · cases h
    · rename_i hr
      have hop := Op.code_of_ofCode hop
      have hv := enc_bits (v := v) (by omega) (by omega)
      rw [hop] at hv
      have bare : ∀ j, decodeBare v j = .ok i → i = j ∧ enc op.code 0 0 0 0 = v := fun j hj => by
        obtain ⟨rfl, h0⟩ := decodeBare_ok hj
        obtain ⟨h5, h6, ha, hb⟩ := bare_fields h0
        rw [h5, h6, ha, hb] at hv
        exact ⟨rfl, hv⟩
      cases op with
      | nop => obtain ⟨rfl, hv⟩ := bare _ h; exact hv
      | hdr => obtain ⟨rfl, h5, h6⟩ := decodeHdr_ok h; rw [h5, h6] at hv; exact hv
      | fin =>
        obtain ⟨rfl, h5, hb⟩ := decodeFin_ok h
        rw [h5, hb, ← decide_flag_toNat] at hv
        exact hv
      | crc8 => obtain ⟨b, rfl, h5, h6⟩ := decodeCrc_ok h; rw [← h5, h6] at hv; exact hv
      | crc16 => obtain ⟨b, rfl, h5, h6⟩ := decodeCrc_ok h; rw [← h5, h6] at hv; exact hv
      | arm => obtain ⟨rfl, hv⟩ := bare _ h; exact hv
      | disarm => obtain ⟨rfl, hv⟩ := bare _ h; exact hv
      | push => obtain ⟨rfl, hv⟩ := bare _ h; exact hv
      | pop => obtain ⟨rfl, hv⟩ := bare _ h; exact hv
      | flush => obtain ⟨rfl, hv⟩ := bare _ h; exact hv

end Sys2Proof

namespace Sys2Proof.Machine

/-! ## The frame predicates as equations of fields -/

namespace State

@[simp] theorem sameTx_iff {s t : State} : s.sameTx t ↔ t.txBuf = s.txBuf ∧ t.txLen = s.txLen := Iff.rfl

@[simp] theorem sameStaging_iff {s t : State} : s.sameStaging t ↔
    t.rxBuf = s.rxBuf ∧ t.rxLen = s.rxLen ∧ t.rxMeta = s.rxMeta := Iff.rfl

@[simp] theorem sameAddrs_iff {s t : State} : s.sameAddrs t ↔
    t.invAddr = s.invAddr ∧ t.stnAddr = s.stnAddr := Iff.rfl

@[simp] theorem sameAcc_iff {s t : State} : s.sameAcc t ↔ t.crc16Acc = s.crc16Acc := Iff.rfl

@[simp] theorem sameResult_iff {s t : State} : s.sameResult t ↔ t.result = s.result := Iff.rfl

@[simp] theorem sameError_iff {s t : State} : s.sameError t ↔
    t.err = s.err ∧ t.errCode = s.errCode ∧ t.errCmd = s.errCmd := Iff.rfl

@[simp] theorem sameSticky_iff {s t : State} : s.sameSticky t ↔
    t.ovfSt = s.ovfSt ∧ t.ignSt = s.ignSt := Iff.rfl

@[simp] theorem sameAttempt_iff {s t : State} : s.sameAttempt t ↔
    t.fsm = s.fsm ∧ t.lastSeen = s.lastSeen ∧ t.expCnt = s.expCnt ∧ t.framesRx = s.framesRx := Iff.rfl

@[simp] theorem sameDrops_iff {s t : State} : s.sameDrops t ↔
    t.foreignCnt = s.foreignCnt ∧ t.ovfCnt = s.ovfCnt ∧ t.ignCnt = s.ignCnt := Iff.rfl

@[simp] theorem sameQueue_iff {s t : State} : s.sameQueue t ↔ t.q = s.q := Iff.rfl

@[simp] theorem sameOwn_iff {s t : State} : s.sameOwn t ↔
    t.cfg = s.cfg ∧ t.pending = s.pending ∧ t.responses = s.responses ∧ t.resets = s.resets := Iff.rfl

/-- All but the framer's TXBUF and TX_LEN, CRC16_ACC, RESULT and the error record: what NOP, HDR, FIN, CRC8,
CRC16 and every erroneous command keep. -/
structure SameReassembly (s t : State) : Prop where
  staging : s.sameStaging t
  addrs : s.sameAddrs t
  sticky : s.sameSticky t
  attempt : s.sameAttempt t
  drops : s.sameDrops t
  queue : s.sameQueue t
  own : s.sameOwn t

theorem SameReassembly.cfg {s t : State} (h : s.SameReassembly t) : t.cfg = s.cfg :=
  (sameOwn_iff.mp h.own).1

theorem SameReassembly.framesRx {s t : State} (h : s.SameReassembly t) : t.framesRx = s.framesRx := by
  obtain ⟨_, _, _, hframes⟩ := sameAttempt_iff.mp h.attempt
  exact hframes

theorem SameReassembly.refl (s : State) : s.SameReassembly s := by constructor <;> simp

theorem setTx_sameReassembly (s : State) (b : Buffer) (n : BitVec 8) :
    s.SameReassembly (s.setTx b n) := by constructor <;> simp

theorem setResult_sameReassembly (s : State) (v : Word) : s.SameReassembly (s.setResult v) := by
  constructor <;> simp

theorem setTx_setResult_sameReassembly (s : State) (b : Buffer) (n : BitVec 8) (v : Word) :
    s.SameReassembly ((s.setTx b n).setResult v) := by constructor <;> simp

theorem setCrc16Acc_setResult_sameReassembly (s : State) (c : Half) (v : Word) :
    s.SameReassembly ((s.setCrc16Acc c).setResult v) := by constructor <;> simp

theorem raise_sameReassembly (s : State) (c : CmdError) (v : Word) : s.SameReassembly (s.raise c v) := by
  constructor <;> simp

end State

/-! ## PUSH -/

theorem eq_byteAt_iff (b : Byte) (v : Word) (lo : Nat) :
    b = byteAt v lo ↔ b.toNat = bits v (lo + 7) lo := by
  simp [byteAt, bits, BitVec.toNat_eq, Nat.shiftRight_eq_div_pow]

/-- Bytes 1 to 4 of a staged frame that has them, the address bytes of the wire format (41_framing.md R101). -/
theorem addressBytes_stagedFrame {s : State} (h : 5 ≤ stagedLen s) :
    ((stagedFrame s).drop 1).take 4 =
      [readByte s.rxBuf 1, readByte s.rxBuf 2, readByte s.rxBuf 3, readByte s.rxBuf 4] := by
  unfold stagedLen at h
  apply List.ext_getElem?
  intro k
  by_cases hk : k < 4
  · rw [List.getElem?_take_of_lt hk, List.getElem?_drop, getElem?_stagedFrame, if_pos (by omega)]
    interval_cases k <;> rfl
  · rw [List.getElem?_eq_none (by simp; omega), List.getElem?_eq_none (by simp; omega)]

/-- R112's check as PUSH computes it is the check byte by byte. -/
theorem addressOk_stagedFrame (s : State) :
    addressOk s.invAddr (stagedFrame s) = true ↔ StagedAddressPasses s := by
  have hlen : (stagedFrame s).length = stagedLen s := length_stagedFrame s
  unfold addressOk StagedAddressPasses
  rw [hlen]
  by_cases h5 : 5 ≤ stagedLen s
  · rw [addressBytes_stagedFrame h5]
    simp [h5, addrBytes, eq_byteAt_iff]
  · simp [h5]

/-- The four outcomes of a PUSH (42_reassembly.md R109), each with what leads to it. -/
inductive PushEffect (s : State) : State → Prop
  | ignored (hl : s.fsm ≠ .listen) : PushEffect s (pushIgnored s)
  | foreign (hl : s.fsm = .listen) (hp : ¬StagedAddressPasses s) : PushEffect s (pushForeign s)
  | overflow (hl : s.fsm = .listen) (hp : StagedAddressPasses s) (hq : s.q.length = s.cfg.queueDepth) :
      PushEffect s (pushOverflow s)
  | queued (hl : s.fsm = .listen) (hp : StagedAddressPasses s) (hq : s.q.length ≠ s.cfg.queueDepth) :
      PushEffect s (pushQueued s)

theorem exec_push (s : State) : ∃ t, exec .push s = .next t ∧ PushEffect s t := by
  simp only [exec, execPush]
  split
  · exact ⟨_, rfl, .ignored ‹_›⟩
  · rename_i hl
    have hl : s.fsm = .listen := not_not.mp hl
    split
    · rename_i hp
      exact ⟨_, rfl, .foreign hl (by rw [← addressOk_stagedFrame, hp]; decide)⟩
    · rename_i hp
      have hp : StagedAddressPasses s := (addressOk_stagedFrame s).mp (by simpa using hp)
      split
      · exact ⟨_, rfl, .overflow hl hp ‹_›⟩
      · exact ⟨_, rfl, .queued hl hp ‹_›⟩

@[simp] theorem pushQueued_q (s : State) : (pushQueued s).q = s.q ++ [stagedEntry s] := by
  unfold pushQueued; simp only []; split <;> rfl

@[simp] theorem pushQueued_framesRx (s : State) : (pushQueued s).framesRx = satInc s.framesRx := by
  unfold pushQueued; simp only []; split <;> rfl

@[simp] theorem pushQueued_foreignCnt (s : State) : (pushQueued s).foreignCnt = s.foreignCnt := by
  unfold pushQueued; simp only []; split <;> rfl

@[simp] theorem pushQueued_ovfCnt (s : State) : (pushQueued s).ovfCnt = s.ovfCnt := by
  unfold pushQueued; simp only []; split <;> rfl

@[simp] theorem pushQueued_ignCnt (s : State) : (pushQueued s).ignCnt = s.ignCnt := by
  unfold pushQueued; simp only []; split <;> rfl

@[simp] theorem pushQueued_ovfSt (s : State) : (pushQueued s).ovfSt = s.ovfSt := by
  unfold pushQueued; simp only []; split <;> rfl

@[simp] theorem pushQueued_ignSt (s : State) : (pushQueued s).ignSt = s.ignSt := by
  unfold pushQueued; simp only []; split <;> rfl

@[simp] theorem pushQueued_cfg (s : State) : (pushQueued s).cfg = s.cfg := by
  unfold pushQueued; simp only []; split <;> rfl

/-! ## Commands -/

/-- What a command can do to the state behind the framer: nothing, or its own effect. -/
inductive CommandEffect (s : State) : Instr → State → Prop
  | keeps {i : Instr} {t : State} (h : s.SameReassembly t) : CommandEffect s i t
  | arm : CommandEffect s .arm ((s.setAttempt .listen false 0 0).setDrops 0 0 0)
  | disarm : CommandEffect s .disarm (s.setAttempt .idle s.lastSeen s.expCnt s.framesRx)
  | push {t : State} (h : PushEffect s t) : CommandEffect s .push t
  | pop {e : Entry} {rest : List Entry} (hq : s.q = e :: rest) : CommandEffect s .pop (s.setQ rest)
  | flush : CommandEffect s .flush (s.setQ [])

theorem exec_effect (i : Instr) (s : State) : ∃ t, exec i s = .next t ∧ CommandEffect s i t := by
  cases i with
  | nop => exact ⟨s, rfl, .keeps (.refl s)⟩
  | hdr mid idx => exact ⟨_, rfl, .keeps (s.setTx_sameReassembly ..)⟩
  | fin f len =>
    simp only [exec, execFin]
    split
    · exact ⟨_, rfl, .keeps (s.raise_sameReassembly ..)⟩
    · exact ⟨_, rfl, .keeps (s.setTx_setResult_sameReassembly ..)⟩
  | crc8 b x y =>
    simp only [exec, execCrc8]
    split
    · exact ⟨_, rfl, .keeps (s.raise_sameReassembly ..)⟩
    · exact ⟨_, rfl, .keeps (s.setResult_sameReassembly ..)⟩
  | crc16 b x y =>
    simp only [exec, execCrc16]
    split
    · exact ⟨_, rfl, .keeps (s.raise_sameReassembly ..)⟩
    · exact ⟨_, rfl, .keeps (s.setCrc16Acc_setResult_sameReassembly ..)⟩
  | arm => exact ⟨_, rfl, .arm⟩
  | disarm => exact ⟨_, rfl, .disarm⟩
  | push =>
    obtain ⟨t, ht, he⟩ := exec_push s
    exact ⟨t, ht, .push he⟩
  | pop =>
    simp only [exec, execPop]
    split
    · exact ⟨_, rfl, .keeps (s.raise_sameReassembly ..)⟩
    · exact ⟨_, rfl, .pop ‹_›⟩
  | flush => exact ⟨_, rfl, .flush⟩

/-- A Write of CMD is some command's word with that command's effect, or keeps all behind the framer (a word
the decoder refuses). -/
theorem runCommand_effect {v : Word} {s t : State} (h : runCommand v s = .next t) :
    s.SameReassembly t ∨ ∃ i, v = encode i ∧ CommandEffect s i t := by
  cases hd : decode v with
  | error c =>
    rw [runCommand_error s hd] at h
    cases h
    exact .inl (s.raise_sameReassembly ..)
  | ok i =>
    rw [runCommand_ok s hd] at h
    obtain ⟨t', ht', he⟩ := exec_effect i s
    rw [ht'] at h
    cases h
    exact .inr ⟨i, (encode_of_decode hd).symm, he⟩

/-! ## The address map and stores -/

/-- Each named register answers at its offset (20_memory.md R58). -/
@[simp] theorem target_offset (r : Reg) : target r.offset = .reg r := by cases r <;> rfl

theorem windows_apart {b c : BufSel} (h : c ≠ b) :
    window c + 128 ≤ window b ∨ window b + 128 ≤ window c := by
  revert h
  cases b <;> cases c <;> simp [window]

theorem windowIndex_window (b c : BufSel) {i : Nat} (h : i < 32) :
    windowIndex c (window b + 4 * i) = if c = b then some i else none := by
  unfold windowIndex
  by_cases hc : c = b
  · subst hc
    rw [if_pos (by omega), if_pos rfl, Nat.add_sub_cancel_left, Nat.mul_div_cancel_left i (by omega)]
  · have := windows_apart hc
    rw [if_neg (by omega), if_neg hc]

/-- Word `i` of a window is its byte `i` (R58, R60). -/
theorem target_window (b : BufSel) {i : Nat} (h : i < 32) : target (window b + 4 * i) = .byte b i := by
  have hr : Reg.all.find? (fun r => r.offset = window b + 4 * i) = none := by
    rw [List.find?_eq_none]
    intro r _ he
    have := of_decide_eq_true he
    cases r <;> cases b <;> simp only [Reg.offset, window] at this <;> omega
  unfold target
  simp only [hr, windowIndex_window b _ h]
  cases b <;> rfl

theorem perform_write_cmd (s : State) (v : Word) :
    perform (.write allLanes 0x000 v) s = runCommand v s := rfl

/-- A write of a register other than CMD stores to it. -/
theorem perform_write_reg {r : Reg} (hr : r ≠ .cmd) (s : State) (v : Word) :
    perform (.write allLanes r.offset v) s = .next (writeReg s v r) := by
  have ha : r.offset % 4 = 0 := by cases r <;> rfl
  have ht : target r.offset ≠ .reg .cmd := by simpa using hr
  rw [perform, transaction_defined _ _ ha, busWrite_store v s ht, target_offset]
  rfl

theorem readTarget_offset (s : State) (r : Reg) : readTarget s (target r.offset) = readReg s r := by
  rw [target_offset]; rfl

/-- No store reaches what only commands and reset change. -/
theorem writeTarget_keeps (s : State) (v : Word) (T : Target) :
    s.sameAttempt (writeTarget s v T) ∧ s.sameDrops (writeTarget s v T) ∧
      s.sameQueue (writeTarget s v T) ∧ s.sameOwn (writeTarget s v T) := by
  cases T with
  | reg r => cases r <;> simp [writeTarget, writeReg]
  | byte b i => cases b <;> simp [writeTarget]
  | unmapped => simp [writeTarget]

/-- Of the stores only one to STATUS reaches the sticky bits. -/
theorem writeTarget_keeps_sticky (s : State) (v : Word) {T : Target} (h : T ≠ .reg .status) :
    s.sameSticky (writeTarget s v T) := by
  cases T with
  | reg r => revert h; cases r <;> simp [writeTarget, writeReg]
  | byte b i => cases b <;> simp [writeTarget]
  | unmapped => simp [writeTarget]

end Sys2Proof.Machine
end

section
/-! PROOFS. The statements about the state (10_state.md): registers' fields, counters, sticky bits, queue,
configuration and reset values. -/

namespace Sys2Proof.Machine

/-! ## The fields of the packed registers -/

/-- The fields of STATUS have room in the word. -/
theorem statusWord_toNat (s : State) : (statusWord s).toNat =
    s.err.toNat + 2 * s.ovfSt.toNat + 4 * s.ignSt.toNat + 16 * s.errCode.toNat := by
  have h1 := bool_toNat_lt s.err
  have h2 := bool_toNat_lt s.ovfSt
  have h3 := bool_toNat_lt s.ignSt
  simp only [statusWord, BitVec.toNat_ofNat]
  omega

/-- R26's bits of STATUS. -/
theorem statusWord_fields (s : State) :
    bits (statusWord s) 0 0 = s.err.toNat ∧ bits (statusWord s) 1 1 = s.ovfSt.toNat ∧
      bits (statusWord s) 2 2 = s.ignSt.toNat ∧ bits (statusWord s) 3 3 = 0 ∧
      bits (statusWord s) 7 4 = s.errCode.toNat ∧ bits (statusWord s) 31 8 = 0 := by
  have h1 := bool_toNat_lt s.err
  have h2 := bool_toNat_lt s.ovfSt
  have h3 := bool_toNat_lt s.ignSt
  simp only [bits, statusWord_toNat]
  omega

theorem Fsm.code_lt (f : Fsm) : f.code < 3 := by cases f <;> decide

/-- The fields of REASM have room in the word. -/
theorem reasmWord_toNat (s : State) : (reasmWord s).toNat =
    s.fsm.code + 4 * s.lastSeen.toNat + 256 * s.expCnt.toNat + 65536 * s.framesRx.toNat := by
  have h1 := s.fsm.code_lt
  have h2 := bool_toNat_lt s.lastSeen
  simp only [reasmWord, BitVec.toNat_ofNat]
  omega

/-- R35's bits of REASM. -/
theorem reasmWord_fields (s : State) :
    bits (reasmWord s) 1 0 = s.fsm.code ∧ bits (reasmWord s) 2 2 = s.lastSeen.toNat ∧
      bits (reasmWord s) 7 3 = 0 ∧ bits (reasmWord s) 15 8 = s.expCnt.toNat ∧
      bits (reasmWord s) 15 15 = 0 ∧ bits (reasmWord s) 23 16 = s.framesRx.toNat ∧
      bits (reasmWord s) 31 24 = 0 := by
  have h1 := s.fsm.code_lt
  have h2 := bool_toNat_lt s.lastSeen
  simp only [bits, reasmWord_toNat]
  omega

/-- The fields of DIAG have room in the word. -/
theorem diagWord_toNat (s : State) : (diagWord s).toNat =
    s.foreignCnt.toNat + 256 * s.ovfCnt.toNat + 65536 * s.ignCnt.toNat := by
  simp only [diagWord, BitVec.toNat_ofNat]
  omega

/-- R36's bits of DIAG. -/
theorem diagWord_fields (s : State) :
    bits (diagWord s) 7 0 = s.foreignCnt.toNat ∧ bits (diagWord s) 15 8 = s.ovfCnt.toNat ∧
      bits (diagWord s) 23 16 = s.ignCnt.toNat ∧ bits (diagWord s) 31 24 = 0 := by
  simp only [bits, diagWord_toNat]
  omega

theorem wf_range {c : Config} (h : c.wf = true) : 1 ≤ c.queueDepth ∧ c.queueDepth ≤ 255 := by
  simpa [Config.wf] using h

/-- The fields of PARAM have room in the word. -/
theorem paramWord_toNat {s : State} (h : s.cfg.wf = true) :
    (paramWord s).toNat = 32 + 256 * s.cfg.queueDepth + 65536 := by
  obtain ⟨_, hd⟩ := wf_range h
  simp only [paramWord, BitVec.toNat_ofNat, Config.maxLen]
  omega

/-- R39's bits of PARAM. -/
theorem paramWord_fields {s : State} (h : s.cfg.wf = true) :
    bits (paramWord s) 7 0 = 32 ∧ bits (paramWord s) 15 8 = s.cfg.queueDepth ∧
      bits (paramWord s) 23 16 = 0x01 ∧ bits (paramWord s) 31 24 = 0 := by
  obtain ⟨_, hd⟩ := wf_range h
  simp only [bits, paramWord_toNat h]
  omega

/-- QSTAT's number, field by field in R37's order, with the head `e` of a queue of `n` entries. -/
def qstatNumber (n : Nat) (e : Entry) (full : Bool) : Nat :=
  n + 256 * e.n + 65536 * e.trunc.toNat + 131072 * e.crc8ok.toNat + 262144 * e.last.toNat
    + 1048576 * full.toNat + 16777216 * e.inlen.toNat

theorem qstatWord_cons {s : State} {e : Entry} {rest : List Entry} (h : s.q = e :: rest) :
    qstatWord s =
      BitVec.ofNat 32 (qstatNumber s.q.length e (decide (s.q.length = s.cfg.queueDepth))) := by
  simp [qstatWord, qstatNumber, h]

theorem qstatWord_nil {s : State} (h : s.q = []) : qstatWord s = 0x00080000 := by simp [qstatWord, h]

/-- R37's bits of QSTAT with a head entry, while count and length fit their fields. -/
theorem qstatNumber_fields {n : Nat} {e : Entry} {full : Bool} (hn : n < 256) (he : e.n < 256) {w : Word}
    (hw : w = BitVec.ofNat 32 (qstatNumber n e full)) :
    bits w 7 0 = n ∧ bits w 15 8 = e.n ∧ bits w 16 16 = e.trunc.toNat ∧
      bits w 17 17 = e.crc8ok.toNat ∧ bits w 18 18 = e.last.toNat ∧ bits w 19 19 = 0 ∧
      bits w 20 20 = full.toNat ∧ bits w 23 21 = 0 ∧ bits w 31 24 = e.inlen.toNat := by
  have h1 := bool_toNat_lt e.trunc
  have h2 := bool_toNat_lt e.crc8ok
  have h3 := bool_toNat_lt e.last
  have h4 := bool_toNat_lt full
  have hw : w.toNat = qstatNumber n e full := by
    rw [hw, BitVec.toNat_ofNat, qstatNumber]
    omega
  simp only [bits, hw, qstatNumber]
  omega

theorem qmetaWord_nil {s : State} (h : s.q = []) : qmetaWord s = 0 := by simp [qmetaWord, h]

theorem qmetaWord_cons {s : State} {e : Entry} {rest : List Entry} (h : s.q = e :: rest) :
    qmetaWord s = e.metaWord := by simp [qmetaWord, h]

theorem readTarget_queueHead (s : State) {i : Nat} (h : i < 32) :
    readTarget s (target (0x300 + 4 * i)) = (queueHeadByte s i).setWidth 32 := by
  rw [show 0x300 = window .qh from rfl, target_window .qh h]
  rfl

theorem queueHeadByte_nil {s : State} (h : s.q = []) (i : Nat) : queueHeadByte s i = 0 := by
  simp [queueHeadByte, h]

theorem queueHeadByte_cons {s : State} {e : Entry} {rest : List Entry} (h : s.q = e :: rest) (i : Nat) :
    queueHeadByte s i = if hi : i < e.n then e.data[i] else 0 := by
  simp only [queueHeadByte, h, Entry.n]
  split
  · simp [*]
  · rw [List.getElem?_eq_none (by omega)]
    rfl

/-! ## What a host action keeps -/

/-- A write of STATUS reaches the error record and the sticky bits only (R26). -/
theorem clearStatus_keeps (s : State) (v : Word) :
    s.sameTx (s.clearStatus v) ∧ s.sameStaging (s.clearStatus v) ∧ s.sameAddrs (s.clearStatus v) ∧
      s.sameAcc (s.clearStatus v) ∧ s.sameResult (s.clearStatus v) ∧ s.sameAttempt (s.clearStatus v) ∧
      s.sameDrops (s.clearStatus v) ∧ s.sameQueue (s.clearStatus v) ∧ s.sameOwn (s.clearStatus v) := by
  simp

theorem CommandEffect.cfg {s t : State} {i : Instr} (h : CommandEffect s i t) : t.cfg = s.cfg := by
  cases h with
  | keeps h => exact h.cfg
  | arm => rfl
  | disarm => rfl
  | push h =>
    cases h with
    | ignored => rfl
    | foreign => rfl
    | overflow => rfl
    | queued => exact pushQueued_cfg s
  | pop => rfl
  | flush => rfl

/-- No host action changes the configuration (R21). -/
theorem perform_cfg {a : HostAction} {s t : State} (h : perform a s = .next t) : t.cfg = s.cfg := by
  rcases perform_next_cases h with ⟨_, rfl⟩ | ⟨_, _, _, rfl⟩ | ⟨v, _, hc⟩ | ⟨off, v, _, _, _, rfl⟩
  · exact resetBlock_cfg s
  · rfl
  · rcases runCommand_effect hc with hk | ⟨i, _, he⟩
    · exact hk.cfg
    · exact he.cfg
  · obtain ⟨_, _, _, hown⟩ := writeTarget_keeps s v (target off)
    exact (State.sameOwn_iff.mp hown).1

/-! ## Counters -/

/-- Settles O30, by PUSH's four outcomes and, for the rest, by what a command and a store can do. -/
theorem countersCount : Obligations.CountersCount := by
  intro s
  refine ⟨?_, ?_, ?_, ?_⟩
  · obtain ⟨t, ht, he⟩ := exec_push s
    refine ⟨t, ht, ?_⟩
    cases he with
    | ignored hl => simp [pushIgnored, hl]
    | foreign hl hp => simp [pushForeign, hl, hp]
    | overflow hl hp hq => simp [pushOverflow, hl, hp, hq]
    | queued hl hp hq => simp [hl, hp, hq]
  · intro i hpush harm
    obtain ⟨t, ht, he⟩ := exec_effect i s
    refine ⟨t, ht, ?_⟩
    cases he with
    | keeps h => exact ⟨h.drops, h.framesRx⟩
    | arm => exact absurd rfl harm
    | disarm => simp
    | push => exact absurd rfl hpush
    | pop => simp
    | flush => simp
  · intro a t ht hreset hcmd
    rcases perform_next_cases ht with ⟨ha, _⟩ | ⟨_, _, _, rfl⟩ | ⟨v, ha, _⟩ | ⟨off, v, _, _, _, rfl⟩
    · exact absurd ha hreset
    · simp
    · exact absurd ha (hcmd v)
    · obtain ⟨hattempt, hdrops, _⟩ := writeTarget_keeps s v (target off)
      obtain ⟨_, _, _, hframes⟩ := State.sameAttempt_iff.mp hattempt
      exact ⟨hdrops, hframes⟩
  · rintro a (rfl | rfl)
    · exact ⟨_, rfl, by simp [resetBlock_eq]⟩
    · rw [perform_write_cmd, runCommand_ok s (i := .arm) (by decide)]
      exact ⟨_, rfl, by simp⟩

/-! ## The queue -/

/-- What a host action can do to Q; an append meets a queue that is not full. -/
theorem perform_queue_cases {s t : State} {a : HostAction} (h : perform a s = .next t) :
    t.q = s.q ∨
    (a = .write allLanes 0x000 0x00000007 ∧ s.fsm = .listen ∧ s.q.length ≠ s.cfg.queueDepth ∧
      ∃ e, t.q = s.q ++ [e]) ∨
    (a = .write allLanes 0x000 0x00000008 ∧ ∃ e, s.q = e :: t.q) ∨
    (a = .write allLanes 0x000 0x00000009 ∧ t.q = []) ∨
    (a = .reset ∧ t.q = []) := by
  rcases perform_next_cases h with ⟨rfl, rfl⟩ | ⟨_, _, _, rfl⟩ | ⟨v, rfl, hc⟩ | ⟨off, v, _, _, _, rfl⟩
  · exact .inr (.inr (.inr (.inr ⟨rfl, by simp [resetBlock_eq]⟩)))
  · exact .inl (by simp)
  · rcases runCommand_effect hc with hk | ⟨i, rfl, he⟩
    · exact .inl hk.queue
    · cases he with
      | keeps h => exact .inl h.queue
      | arm => exact .inl (by simp)
      | disarm => exact .inl (by simp)
      | push h =>
        cases h with
        | ignored => exact .inl (by simp [pushIgnored])
        | foreign => exact .inl (by simp [pushForeign])
        | overflow => exact .inl (by simp [pushOverflow])
        | queued hl hp hq => exact .inr (.inl ⟨rfl, hl, hq, _, pushQueued_q s⟩)
      | pop hq => exact .inr (.inr (.inl ⟨rfl, _, hq⟩))
      | flush => exact .inr (.inr (.inr (.inl ⟨rfl, rfl⟩)))
  · obtain ⟨_, _, hqueue, _⟩ := writeTarget_keeps s v (target off)
    exact .inl hqueue

/-- Settles O36: the cases of Q, each within QUEUE_DEPTH because an append meets a queue below it. -/
theorem queueChangesOnlyByItsCommands : Obligations.QueueChangesOnlyByItsCommands := by
  intro s t a h
  have hcases := perform_queue_cases h
  refine ⟨fun hlen => ?_, ?_⟩
  · rw [perform_cfg h]
    rcases hcases with hq | ⟨_, _, hne, e, hq⟩ | ⟨_, e, hq⟩ | ⟨_, hq⟩ | ⟨_, hq⟩
    · rwa [hq]
    · rw [hq, List.length_append, List.length_singleton]
      omega
    · rw [hq, List.length_cons] at hlen
      omega
    · simp [hq]
    · simp [hq]
  · exact hcases.imp_right (Or.imp_left fun ⟨ha, hl, _, he⟩ => ⟨ha, hl, he⟩)

/-! ## Sticky bits -/

/-- What a host action can do to OVF_ST and IGN_ST (R50). -/
theorem perform_sticky_cases {s t : State} {a : HostAction} (h : perform a s = .next t) :
    s.sameSticky t ∨
    (a = .write allLanes 0x000 0x00000007 ∧ s.fsm ≠ .listen ∧ t.ovfSt = s.ovfSt ∧ t.ignSt = true) ∨
    (a = .write allLanes 0x000 0x00000007 ∧ s.fsm = .listen ∧ StagedAddressPasses s ∧
      s.q.length = s.cfg.queueDepth ∧ t.ovfSt = true ∧ t.ignSt = s.ignSt) ∨
    (∃ v, a = .write allLanes 0x004 v ∧ t = s.clearStatus v) ∨
    (a = .reset ∧ t.ovfSt = false ∧ t.ignSt = false) := by
  rcases perform_next_cases h with ⟨rfl, rfl⟩ | ⟨_, _, _, rfl⟩ | ⟨v, rfl, hc⟩ | ⟨off, v, ha, _, _, rfl⟩
  · exact .inr (.inr (.inr (.inr ⟨rfl, by simp [resetBlock_eq]⟩)))
  · exact .inl (by simp)
  · rcases runCommand_effect hc with hk | ⟨i, rfl, he⟩
    · exact .inl hk.sticky
    · cases he with
      | keeps h => exact .inl h.sticky
      | arm => exact .inl (by simp)
      | disarm => exact .inl (by simp)
      | push h =>
        cases h with
        | ignored hl => exact .inr (.inl ⟨rfl, hl, by simp [pushIgnored]⟩)
        | foreign => exact .inl (by simp [pushForeign])
        | overflow hl hp hq => exact .inr (.inr (.inl ⟨rfl, hl, hp, hq, by simp [pushOverflow]⟩))
        | queued => exact .inl (by simp)
      | pop => exact .inl (by simp)
      | flush => exact .inl (by simp)
  · by_cases hT : target off = .reg .status
    · rw [hT]
      rw [offset_of_target hT] at ha
      exact .inr (.inr (.inr (.inl ⟨v, ha, rfl⟩)))
    · exact .inl (writeTarget_keeps_sticky s v hT)

/-- PUSH sets the bit of the outcome that drops a frame unseen (R111, R113). -/
theorem exec_push_sets_sticky (s : State) : ∃ t, exec .push s = .next t ∧
    (s.fsm ≠ .listen → t.ignSt = true) ∧
    (s.fsm = .listen → StagedAddressPasses s → s.q.length = s.cfg.queueDepth → t.ovfSt = true) := by
  obtain ⟨t, ht, he⟩ := exec_push s
  refine ⟨t, ht, ?_⟩
  cases he with
  | ignored hl => simp [pushIgnored, hl]
  | foreign hl hp => simp [hl, hp]
  | overflow hl => simp [pushOverflow, hl]
  | queued hl _ hq => simp [hl, hq]

/-- Settles O41, by what a host action can do to the two bits. -/
theorem stickyBitsStayUntilCleared : Obligations.StickyBitsStayUntilCleared := by
  refine ⟨fun s t a h => ?_, exec_push_sets_sticky, fun s => ⟨_, rfl, by simp [resetBlock_eq]⟩⟩
  rcases perform_sticky_cases h with
    ⟨ho, hi⟩ | ⟨rfl, hl, ho, hi⟩ | ⟨rfl, hl, hp, hq, ho, hi⟩ | ⟨v, rfl, rfl⟩ | ⟨rfl, ho, hi⟩
  · simp +contextual [ho, hi]
  · simp +contextual [ho, hi, hl]
  · simp +contextual [ho, hi, hl, hp, hq]
  · simp +contextual
  · simp +contextual [ho, hi]

/-! ## Registers -/

/-- Settles O49, from STATUS's fields, what PUSH sets and what a STATUS write keeps. -/
theorem statusRegister : Obligations.StatusRegister := by
  refine ⟨rfl, fun s => ⟨readTarget_offset s .status, ?_⟩⟩
  obtain ⟨herr, hovf, hign, h3, hcode, h8⟩ := statusWord_fields s
  refine ⟨herr, hovf, hign, h3, hcode, h8, ?_, ?_, ?_, ?_⟩
  · intro hinv he
    rw [hcode, (hinv.error.clear he).1]
    rfl
  · intro c w
    obtain ⟨herr', _, _, _, hcode', _⟩ := statusWord_fields (s.raise c w)
    rw [herr', hcode', State.raise_err, State.raise_errCode, apply_ite BitVec.toNat]
    exact ⟨rfl, rfl⟩
  · obtain ⟨t, ht, hign', hovf'⟩ := exec_push_sets_sticky s
    obtain ⟨_, hovft, hignt, _⟩ := statusWord_fields t
    refine ⟨t, ht, fun hl hp hq => ?_, fun hl => ?_⟩
    · rw [hovft, hovf' hl hp hq]; rfl
    · rw [hignt, hign' hl]; rfl
  · intro v
    refine ⟨_, perform_write_reg (r := .status) (by decide) s v, ?_, ?_, ?_, ?_, clearStatus_keeps s v⟩
    · intro h0
      simp [writeReg, State.clearStatus_err, State.clearStatus_errCode, State.clearStatus_errCmd, h0]
    · intro h0
      simp [writeReg, State.clearStatus_err, State.clearStatus_errCode, State.clearStatus_errCmd, h0]
    · by_cases h1 : bits v 1 1 = 1 <;> simp [writeReg, h1]
    · by_cases h2 : bits v 2 2 = 1 <;> simp [writeReg, h2]

/-- Settles O50, from the fields of REASM and DIAG. -/
theorem reasmAndDiagRegisters : Obligations.ReasmAndDiagRegisters := by
  refine ⟨rfl, rfl, fun s => ⟨readTarget_offset s .reasm, readTarget_offset s .diag, ?_⟩⟩
  obtain ⟨hfsm, hrest⟩ := reasmWord_fields s
  obtain ⟨hseen, h7, hexp, h15, hframes, h31⟩ := hrest
  obtain ⟨hforeign, hovf, hign, hd31⟩ := diagWord_fields s
  refine ⟨?_, ?_, ?_, hseen, h7, hexp, h15, hframes, h31, hforeign, hovf, hign, hd31, fun v => ?_⟩
  · intro h; rw [hfsm, h]; rfl
  · intro h; rw [hfsm, h]; rfl
  · intro h; rw [hfsm, h]; rfl
  · exact ⟨perform_write_reg (r := .reasm) (by decide) s v, perform_write_reg (r := .diag) (by decide) s v⟩

/-- Settles O51: the invariant keeps the head's fields within their bits of QSTAT. -/
theorem queueRegisters : Obligations.QueueRegisters := by
  refine ⟨rfl, rfl, fun s v => ⟨perform_write_reg (r := .qstat) (by decide) s v,
    perform_write_reg (r := .qmeta) (by decide) s v⟩, fun s hinv => ⟨fun hq => ?_, fun e rest hq => ?_⟩⟩
  · refine ⟨(readTarget_offset s .qstat).trans (qstatWord_nil hq),
      (readTarget_offset s .qmeta).trans (qmetaWord_nil hq), fun i hi => ?_⟩
    rw [readTarget_queueHead s hi, queueHeadByte_nil hq]
    rfl
  · have hlen : s.q.length < 256 := by
      have := hinv.depth
      have := (wf_range hinv.cfg).2
      omega
    have hn : e.n < 256 := by
      have := (hinv.entries e (by simp [hq])).len
      omega
    obtain ⟨hcount, hlenb, htrunc, hcrc, hlast, hempty, hfull, hres, hinlen⟩ :=
      qstatNumber_fields hlen hn (qstatWord_cons hq)
    refine ⟨qstatWord s, readTarget_offset s .qstat, hcount, hlenb, htrunc, hcrc, hlast, hempty, ?_, hres,
      hinlen, (readTarget_offset s .qmeta).trans (qmetaWord_cons hq), fun i hi => ?_⟩
    · simp [hfull]
    · rw [readTarget_queueHead s hi, queueHeadByte_cons hq]
      split <;> rfl

/-! ## The configuration -/

/-- Settles O55: a step performs an action, and none changes the configuration that PARAM shows. -/
theorem configurationIsFixed : Obligations.ConfigurationIsFixed := by
  refine ⟨fun s t h => ?_, fun s hwf => ?_⟩
  · have hcfg : t.cfg = s.cfg := by
      cases hp : s.pending with
      | nil =>
        simp only [step, performNext, hp] at h
        cases h
        rfl
      | cons a rest =>
        rw [step_performs hp] at h
        simpa using perform_cfg h
    refine ⟨hcfg, ?_⟩
    rw [show 0x038 = Reg.param.offset from rfl, readTarget_offset, readTarget_offset]
    simp only [readReg, paramWord, hcfg]
  · obtain ⟨hmax, hdepth, hversion, hres⟩ := paramWord_fields hwf
    exact ⟨_, readTarget_offset s .param, hmax, hdepth, hversion, hres,
      fun v => perform_write_reg (r := .param) (by decide) s v⟩

/-! ## Reset -/

/-- The registers that read 0 right after reset (R52's last sentence). -/
def zeroAfterReset : List Reg :=
  [.cmd, .status, .result, .errCmd, .invAddr, .stnAddr, .txLen, .rxLen, .rxMeta, .reasm, .diag, .qmeta]

theorem readReg_afterReset {c : Config} {k : Nat} {p : List HostAction} {w : List Word} :
    ∀ r ∈ zeroAfterReset, readReg (State.afterReset c k p w) r = 0 := by
  simp [zeroAfterReset, readReg, statusWord, reasmWord, diagWord, qmetaWord, Fsm.code]

/-- A state right after reset is one `afterReset` makes. -/
theorem eq_afterReset {t : State} (h : t = State.reset ∨ ∃ s, perform .reset s = .next t) :
    ∃ k p w, t = State.afterReset t.cfg k p w := by
  rcases h with rfl | ⟨s, hs⟩
  · exact ⟨0, [], [], rfl⟩
  · have hs : t = resetBlock s := by simpa [perform] using hs.symm
    rw [hs, resetBlock_cfg]
    exact ⟨_, _, _, resetBlock_eq s⟩

/-- Settles O1, for every state that `afterReset` makes. -/
theorem resetGivesResetValues : Obligations.ResetGivesResetValues := by
  refine ⟨fun s => ⟨_, rfl⟩, rfl, fun t hwf ht => ?_⟩
  obtain ⟨k, p, w, hk⟩ := eq_afterReset ht
  generalize t.cfg = c at hk hwf
  subst hk
  refine ⟨rfl, rfl, rfl, rfl, rfl, rfl, rfl, rfl, rfl, rfl, rfl, rfl, rfl, rfl, rfl, rfl, rfl, rfl, rfl, rfl,
    ?_, ?_, ?_, ?_, fun i hi => ?_⟩
  · change ∀ off ∈ zeroAfterReset.map Reg.offset, _
    rw [List.forall_mem_map]
    intro r hr
    rw [readTarget_offset]
    exact readReg_afterReset r hr
  · rw [show 0x018 = Reg.crc16Acc.offset from rfl, readTarget_offset]
    simp [readReg]
    omega
  · rw [show 0x030 = Reg.qstat.offset from rfl, readTarget_offset]
    exact qstatWord_nil (s := State.afterReset c k p w) rfl
  · rw [show 0x038 = Reg.param.offset from rfl, readTarget_offset]
    exact paramWord_toNat hwf
  · rw [readTarget_queueHead _ hi, queueHeadByte_nil rfl]
    rfl

end Sys2Proof.Machine
end

section
/-! PROOFS. The statements about the address map (20_memory.md R57, R58, R60): what is listed, and what the
byte windows read and store. -/

namespace Sys2Proof.Machine

/-! ## Unlisted offsets -/

/-- No named register stands above PARAM (R58). -/
theorem Reg.offset_le (r : Reg) : r.offset ≤ 0x038 := by cases r <;> decide

/-- Above the registers and outside every window nothing is listed (R57). -/
theorem target_unlisted {off : Nat} (hr : 0x038 < off)
    (hw : ∀ b, off < window b ∨ window b + 128 ≤ off) : target off = .unmapped := by
  have hnoReg : Reg.all.find? (fun r => r.offset = off) = none := by
    rw [List.find?_eq_none]
    intro r _ he
    have := of_decide_eq_true he
    have := r.offset_le
    omega
  have hnoWindow : ∀ b, windowIndex b off = none := fun b => if_neg (by have := hw b; omega)
  simp [target, hnoReg, hnoWindow]

/-! ## Stores and window words -/

/-- `busWrite_store` for a whole host action: the transaction's shape checked (R55). -/
theorem perform_write_store {off : Nat} (ha : off % 4 = 0) (s : State) (v : Word)
    (h : target off ≠ .reg .cmd) :
    perform (.write allLanes off v) s = .next (writeTarget s v (target off)) := by
  rw [perform, transaction_defined _ _ ha, busWrite_store v s h]

theorem perform_write_window (s : State) (v : Word) (b : BufSel) {i : Nat} (h : i < 32) :
    perform (.write allLanes (window b + 4 * i) v) s = .next (writeTarget s v (.byte b i)) := by
  have ha : (window b + 4 * i) % 4 = 0 := by cases b <;> simp only [window] <;> omega
  rw [perform_write_store ha s v (by simp [target_window b h]), target_window b h]

/-- A window word shows its byte zero-extended. -/
theorem readTarget_window_toNat (s : State) (b : BufSel) {i : Nat} (h : i < 32) :
    (readTarget s (target (window b + 4 * i))).toNat = (windowByte s b i).toNat := by
  rw [target_window b h, readTarget]
  exact BitVec.toNat_setWidth_of_le (by decide)

/-- A written byte reads back as bits 7:0 of the word, and every other byte as before. -/
theorem readByte_writeByte_word (b : Buffer) (v : Word) {i : Nat} (h : i < 32) :
    (readByte (writeByte b i (byteAt v 0)) i).toNat = bits v 7 0 ∧
      ∀ j, j ≠ i → readByte (writeByte b i (byteAt v 0)) j = readByte b j := by
  refine ⟨?_, fun j hj => ?_⟩
  · rw [readByte_writeByte, if_pos ⟨rfl, h⟩]
    exact (eq_byteAt_iff _ v 0).mp rfl
  · rw [readByte_writeByte, if_neg fun hij => hj hij.1.symm]

/-! ## The statements -/

/-- Settles O48: registers and windows by their offsets, and the ranges between them as unlisted. -/
theorem addressMap : Obligations.AddressMap := by
  refine ⟨target_offset .cmd, target_offset .status, target_offset .result, target_offset .errCmd,
    target_offset .invAddr, target_offset .stnAddr, target_offset .crc16Acc, target_offset .txLen,
    target_offset .rxLen, target_offset .rxMeta, target_offset .reasm, target_offset .diag,
    target_offset .qstat, target_offset .qmeta, target_offset .param,
    fun i hi => ⟨target_window .tx hi, target_window .rx hi, target_window .qh hi⟩,
    fun off ha hoff => ?_⟩
  have hw : ∀ b, off < window b ∨ window b + 128 ≤ off := by
    intro b
    cases b <;> simp only [window] <;> omega
  have ht : target off = .unmapped := target_unlisted (by omega) hw
  refine ⟨ht, fun s v => ⟨?_, ?_⟩⟩
  · rw [ht]; rfl
  · rw [perform_write_store ha s v (by simp [ht]), ht]; rfl

/-- Settles O53: a window word names its byte, and a store to it is one `writeByte`. -/
theorem byteWindows : Obligations.ByteWindows := by
  intro s v i hi
  refine ⟨readTarget_window_toNat s .tx hi, readTarget_window_toNat s .rx hi,
    readTarget_window_toNat s .qh hi, ⟨_, perform_write_window s v .tx hi, ?_⟩,
    ⟨_, perform_write_window s v .rx hi, ?_⟩, perform_write_window s v .qh hi⟩
  · obtain ⟨hbyte, hothers⟩ := readByte_writeByte_word s.txBuf v hi
    exact ⟨hbyte, hothers, by simp [writeTarget]⟩
  · obtain ⟨hbyte, hothers⟩ := readByte_writeByte_word s.rxBuf v hi
    exact ⟨hbyte, hothers, by simp [writeTarget]⟩

end Sys2Proof.Machine
end

section
/-! PROOFS. The statements about command words (30_encoding.md R83 to R85, R91, R92): the decoder's tests in
their order, one lemma per test, and what a refused word does to the state. -/

namespace Sys2Proof

/-! ## The decoder after its first two tests -/

/-- The decoder's last part, for a word with OP `op` and reserved bits 0 (R83, third test on). -/
def decodeOperands (v : Word) : Op → Except CmdError Instr
  | .nop => decodeBare v .nop
  | .hdr => decodeHdr v
  | .fin => decodeFin v
  | .crc8 => decodeCrc v .crc8
  | .crc16 => decodeCrc v .crc16
  | .arm => decodeBare v .arm
  | .disarm => decodeBare v .disarm
  | .push => decodeBare v .push
  | .pop => decodeBare v .pop
  | .flush => decodeBare v .flush

/-- A field that `op` does not use is nonzero, or its SEL names no buffer (R82, R85). -/
def BadOperands (v : Word) : Op → Prop
  | .hdr => bits v 5 4 ≠ 0 ∨ bits v 6 6 ≠ 0
  | .fin => bits v 5 4 ≠ 0 ∨ bits v 23 16 ≠ 0
  | .crc8 | .crc16 => bits v 6 6 ≠ 0 ∨ bits v 5 4 = 3
  | .nop | .arm | .disarm | .push | .pop | .flush => bits v 31 4 ≠ 0

@[simp] theorem Op.ofCode_code (op : Op) : Op.ofCode op.code = some op := by cases op <;> rfl

theorem Op.exists_code {n : Nat} (h : n < 10) : ∃ op : Op, n = op.code := by
  cases hop : Op.ofCode n with
  | none => have := Op.ofCode_none.mp hop; omega
  | some op => exact ⟨op, Op.code_of_ofCode hop⟩

section
variable {v : Word} {op : Op}

theorem decode_illegalOp (h : 10 ≤ bits v 3 0) : decode v = .error .illegalOp := by
  rw [decode, Op.ofCode_none.mpr h]

theorem decode_reservedBits (hop : bits v 3 0 = op.code) (h : bits v 7 7 ≠ 0 ∨ bits v 31 24 ≠ 0) :
    decode v = .error .reserved := by
  simp only [decode, hop, Op.ofCode_code, if_pos h]

theorem decode_operands (hop : bits v 3 0 = op.code) (h7 : bits v 7 7 = 0) (ht : bits v 31 24 = 0) :
    decode v = decodeOperands v op := by
  have hr : ¬(bits v 7 7 ≠ 0 ∨ bits v 31 24 ≠ 0) := by omega
  simp only [decode, hop, Op.ofCode_code, if_neg hr]
  cases op <;> rfl

theorem decodeCrc_reserved (mk : BufSel → Nat → Nat → Instr) (h : bits v 6 6 ≠ 0 ∨ bits v 5 4 = 3) :
    decodeCrc v mk = .error .reserved := by
  unfold decodeCrc
  split
  · rfl
  · next b hb =>
    have hb3 : bits v 5 4 < 3 := BufSel.code_of_ofCode hb ▸ b.code_lt
    exact if_pos (by omega)

theorem decodeCrc_code (mk : BufSel → Nat → Nat → Instr) {b : BufSel} (hf : bits v 6 6 = 0)
    (hb : bits v 5 4 = b.code) : decodeCrc v mk = .ok (mk b (bits v 15 8) (bits v 23 16)) := by
  simp [decodeCrc, hf, hb]

theorem decodeOperands_reserved (h : BadOperands v op) : decodeOperands v op = .error .reserved := by
  cases op with
  | crc8 => exact decodeCrc_reserved .crc8 h
  | crc16 => exact decodeCrc_reserved .crc16 h
  | nop | hdr | fin | arm | disarm | push | pop | flush => exact if_pos h

/-- Bad operands of a defined OP are RESERVED, whether the reserved bits are 0 or not. -/
theorem decode_reserved (hop : bits v 3 0 = op.code) (h : BadOperands v op) :
    decode v = .error .reserved := by
  by_cases hr : bits v 7 7 ≠ 0 ∨ bits v 31 24 ≠ 0
  · exact decode_reservedBits hop hr
  · rw [decode_operands hop (by omega) (by omega), decodeOperands_reserved h]

/-- A nonzero field among those R76's table marks 0 for the word's OP is a bad operand. -/
theorem badOperands_of_unused_field (hop : bits v 3 0 = op.code)
    (h : (bits v 6 6 ≠ 0 ∧ bits v 3 0 ≠ 2) ∨
      (bits v 5 4 ≠ 0 ∧ bits v 3 0 ≠ 3 ∧ bits v 3 0 ≠ 4) ∨
      (bits v 15 8 ≠ 0 ∧ (bits v 3 0 = 0 ∨ 5 ≤ bits v 3 0)) ∨
      (bits v 23 16 ≠ 0 ∧ (bits v 3 0 = 0 ∨ bits v 3 0 = 2 ∨ 5 ≤ bits v 3 0))) :
    BadOperands v op := by
  rw [hop] at h
  cases op with simp only [Op.code, BadOperands] at h ⊢
  | hdr | fin | crc8 | crc16 => omega
  | nop | arm | disarm | push | pop | flush =>
    intro h0
    obtain ⟨hsel, hf, ha, hb⟩ := bare_fields h0
    omega

/-- R83's third test, from the OP values of the commands without operands. -/
theorem badOperands_of_bare_code (hop : bits v 3 0 = op.code)
    (hbare : bits v 3 0 = 0 ∨ (5 ≤ bits v 3 0 ∧ bits v 3 0 ≤ 9)) (h : bits v 31 4 ≠ 0) :
    BadOperands v op := by
  rw [hop] at hbare
  cases op with
  | hdr | fin | crc8 | crc16 => simp [Op.code] at hbare
  | nop | arm | disarm | push | pop | flush => exact h

theorem decode_crc_reserved (hop : bits v 3 0 = 3 ∨ bits v 3 0 = 4)
    (h : bits v 6 6 ≠ 0 ∨ bits v 5 4 = 3) : decode v = .error .reserved := by
  rcases hop with hop | hop
  · exact decode_reserved (op := .crc8) hop h
  · exact decode_reserved (op := .crc16) hop h

end

/-! ## The statements about the decoder -/

/-- Settles O4: each clause is the lemma of its test. -/
theorem decodeTestsInOrder : Obligations.DecodeTestsInOrder := by
  intro v
  refine ⟨decode_illegalOp, fun hlt hr => ?_, fun h7 ht => ⟨fun hbare hrest => ?_,
    fun hop => decode_operands (op := .hdr) hop h7 ht, fun hop => decode_operands (op := .fin) hop h7 ht,
    decode_crc_reserved, fun b hf hb => ⟨fun hop => ?_, fun hop => ?_⟩⟩, ?_⟩
  · obtain ⟨op, hop⟩ := Op.exists_code hlt
    exact decode_reservedBits hop hr
  · obtain ⟨op, hop⟩ := Op.exists_code (n := bits v 3 0) (by omega)
    exact decode_reserved hop (badOperands_of_bare_code hop hbare hrest)
  · rw [decode_operands (op := .crc8) hop h7 ht]
    exact decodeCrc_code .crc8 hf hb
  · rw [decode_operands (op := .crc16) hop h7 ht]
    exact decodeCrc_code .crc16 hf hb
  · refine ⟨?_, ?_, ?_, ?_, ?_, ?_⟩ <;> (rintro rfl; decide)

/-- Settles O7: R91's words by evaluation; each of R92's by the test that refuses it. -/
theorem workedEncodings : Obligations.WorkedEncodings := by
  refine ⟨?_, ?_, ?_, ?_, ?_, ?_, ?_, ?_, ?_, ?_, ?_, ?_, ?_, ?_,
    decode_illegalOp ?_, decode_reservedBits (op := .nop) rfl (.inl ?_),
    decode_reserved (op := .arm) rfl (show bits _ 31 4 ≠ 0 from ?_),
    decode_reserved (op := .hdr) rfl (.inr ?_), decode_reserved (op := .fin) rfl (.inr ?_),
    decode_reserved (op := .crc8) rfl (.inr ?_), decode_reservedBits (op := .push) rfl (.inr ?_)⟩
  all_goals decide

end Sys2Proof

namespace Sys2Proof.Machine

/-! ## Refused words -/

theorem State.raise_sameButError (s : State) (c : CmdError) (v : Word) : s.sameButError (s.raise c v) := by
  simp [State.sameButError]

theorem State.raise_first_errCode {s : State} (h : s.err = false) (c : CmdError) (v : Word) :
    (s.raise c v).errCode = c.code := by
  simp [State.raise_errCode, h]

/-- Settles O8: the decoder refuses the word, and `raise` is all that CMD then does. -/
theorem reservedEncodingsRaise : Obligations.ReservedEncodingsRaise := by
  intro s v
  refine ⟨fun h => runCommand_error s (decode_illegalOp h),
    fun hop hsel => runCommand_error s (decode_crc_reserved hop (.inr hsel)),
    fun hlt h => runCommand_error s ?_,
    fun herr => ⟨State.raise_first_errCode herr _ v, State.raise_first_errCode herr _ v⟩,
    s.raise_sameButError _ v, s.raise_sameButError _ v⟩
  obtain ⟨op, hop⟩ := Op.exists_code hlt
  rcases h with h7 | ht | hfield
  · exact decode_reservedBits hop (.inl h7)
  · exact decode_reservedBits hop (.inr ht)
  · exact decode_reserved hop (badOperands_of_unused_field hop hfield)

end Sys2Proof.Machine
end

section
/-! PROOFS. The statements about the CRC functions and commands (40_crc.md R93 to R100): the functions as
iterated shifts, R98's source case by case, and what each command then does. -/

namespace Sys2Proof.Machine

/-! ## One shift -/

/-- R93's test of the top bit, as a comparison. -/
theorem getLsbD_top (c : Byte) : c.getLsbD 7 = decide (128 ≤ c.toNat) := by
  rw [show c.getLsbD 7 = c.msb from (BitVec.msb_eq_getLsbD_last c).symm, BitVec.msb_eq_decide]

theorem crc8Shift_toNat (p c : Byte) : (crc8Shift p c).toNat =
    if 128 ≤ c.toNat then 2 * c.toNat % 256 ^^^ p.toNat else 2 * c.toNat % 256 := by
  have hshift : (c <<< 1).toNat = 2 * c.toNat % 256 := by
    rw [BitVec.toNat_shiftLeft, Nat.shiftLeft_eq, Nat.mul_comm]
  simp only [crc8Shift, getLsbD_top, decide_eq_true_eq, apply_ite BitVec.toNat, BitVec.toNat_xor, hshift]

/-- R94's test of the bottom bit, as a remainder. -/
theorem getLsbD_bottom (c : Half) : c.getLsbD 0 = decide (c.toNat % 2 = 1) := by
  rw [← BitVec.testBit_toNat, Nat.testBit_zero]

theorem crc16Shift_toNat (p c : Half) : (crc16Shift p c).toNat =
    if c.toNat % 2 = 1 then c.toNat / 2 ^^^ p.toNat else c.toNat / 2 := by
  have hshift : (c >>> 1).toNat = c.toNat / 2 := by
    rw [BitVec.toNat_ushiftRight, Nat.shiftRight_eq_div_pow, pow_one]
  simp only [crc16Shift, getLsbD_bottom, decide_eq_true_eq, apply_ite BitVec.toNat, BitVec.toNat_xor,
    hshift]

/-- With R9's polynomial the top bit that a shift drops comes back at the bottom. -/
theorem crc8Shift_default (c : Byte) : crc8Shift 0x01 c = c.rotateLeft 1 := by
  unfold crc8Shift
  ext i hi
  cases h7 : c.getLsbD 7 <;> interval_cases i <;> simp_all [BitVec.getElem_rotateLeft]

/-! ## Bytes and strings -/

theorem crc8Bits_eq_iterate (poly : Byte) (k : Nat) (c : Byte) :
    crc8Bits poly k c = (crc8Shift poly)^[k] c := by
  induction k generalizing c with
  | zero => rfl
  | succ k ih => exact ih (crc8Shift poly c)

theorem crc16Bits_eq_iterate (poly : Half) (k : Nat) (c : Half) :
    crc16Bits poly k c = (crc16Shift poly)^[k] c := by
  induction k generalizing c with
  | zero => rfl
  | succ k ih => exact ih (crc16Shift poly c)

theorem crc8_append (cfg : Config) (s t : List Byte) :
    crc8 cfg (s ++ t) = crc8From cfg.crc8Poly (crc8 cfg s) t := List.foldl_append

theorem crc16_append (cfg : Config) (init : Half) (s t : List Byte) :
    crc16 cfg init (s ++ t) = crc16 cfg (crc16 cfg init s) t := List.foldl_append

theorem crc8_append_byte (cfg : Config) (s : List Byte) (x : Byte) :
    crc8 cfg (s ++ [x]) = (crc8Shift cfg.crc8Poly)^[8] (crc8 cfg s ^^^ x) := by
  rw [crc8_append, ← crc8Bits_eq_iterate]
  rfl

theorem crc16_append_byte (cfg : Config) (init : Half) (s : List Byte) (x : Byte) :
    crc16 cfg init (s ++ [x]) =
      (crc16Shift cfg.crc16PolyR)^[8] (crc16 cfg init s ^^^ x.setWidth 16) := by
  rw [crc16_append, ← crc16Bits_eq_iterate]
  rfl

/-- Settles O18: each function's equations over a string and over one shift. -/
theorem crcFunctionsFollowAlgorithms : Obligations.CrcFunctionsFollowAlgorithms :=
  ⟨rfl, rfl, rfl, rfl, fun cfg => ⟨rfl, crc8_append_byte cfg, crc8Shift_toNat, fun _ => rfl,
    crc16_append_byte cfg, crc16Shift_toNat⟩⟩

/-! ## The default CRC-8 is the XOR of all bytes -/

/-- Eight left rotations of a byte give it back. -/
theorem crc8Bits_default (c : Byte) : crc8Bits 0x01 8 c = c := by
  simp only [crc8Bits, crc8Shift_default]
  ext i hi
  interval_cases i <;> simp [BitVec.getElem_rotateLeft]

section
variable {cfg : Config} (hpoly : cfg.crc8Poly = 0x01) (hinit : cfg.crc8Init = 0x00)
include hpoly hinit

theorem crc8_default (s : List Byte) : crc8 cfg s = s.foldl (· ^^^ ·) 0 := by
  simp only [crc8, crc8From, hpoly, hinit, crc8Bits_default]

theorem crc8_default_append (s t : List Byte) : crc8 cfg (s ++ t) = crc8 cfg s ^^^ crc8 cfg t := by
  simp only [crc8_default hpoly hinit, List.foldl_append]
  simpa using List.foldl_assoc (op := fun x y : Byte => x ^^^ y) (l := t) (a₁ := s.foldl (· ^^^ ·) 0)
    (a₂ := 0)

theorem crc8_default_byte (x : Byte) : crc8 cfg [x] = x := by
  simp [crc8_default hpoly hinit]

theorem crc8_default_flip (s t : List Byte) (x m : Byte) :
    crc8 cfg (s ++ [x ^^^ m] ++ t) = crc8 cfg (s ++ [x] ++ t) ^^^ m := by
  simp only [crc8_default_append hpoly hinit, crc8_default_byte hpoly hinit]
  ac_rfl

/-- The second flip undoes the first. -/
theorem crc8_default_two_flips (s t u : List Byte) (x y m : Byte) :
    crc8 cfg (s ++ [x ^^^ m] ++ t ++ [y ^^^ m] ++ u) = crc8 cfg (s ++ [x] ++ t ++ [y] ++ u) := by
  simp only [crc8_default_append hpoly hinit, crc8_default_byte hpoly hinit]
  calc
    _ = (crc8 cfg s ^^^ x ^^^ crc8 cfg t ^^^ y ^^^ crc8 cfg u) ^^^ (m ^^^ m) := by ac_rfl
    _ = _ := by rw [BitVec.xor_self, BitVec.xor_zero]

theorem crc8_default_self (s : List Byte) : crc8 cfg (s ++ [crc8 cfg s]) = 0 := by
  rw [crc8_default_append hpoly hinit, crc8_default_byte hpoly hinit]
  exact BitVec.xor_self

end

/-- Settles O19: chaining is `foldl` over an append; (b) and (c) follow from the XOR form. -/
theorem crcProperties : Obligations.CrcProperties :=
  ⟨crc16_append, crc8_append, fun _ hpoly hinit => ⟨crc8_default hpoly hinit,
    crc8_default_flip hpoly hinit, crc8_default_two_flips hpoly hinit, crc8_default_self hpoly hinit⟩,
    (crc8_default rfl rfl _).trans (by decide), by decide +kernel⟩

/-! ## The source of a CRC command (R98) -/

section
variable {s : State} {buf : BufSel} {a b : Nat}

theorem source_queueEmpty (hq : buf = .qh ∧ s.q = []) : source s buf a b = .error .queueEmpty := by
  rw [source_spec, if_pos hq]

theorem source_range (hq : ¬(buf = .qh ∧ s.q = [])) (h : a + b > (bufferBytes s buf).length) :
    source s buf a b = .error .range := by
  rw [source_spec, if_neg hq, if_pos h]

theorem source_ok (hq : ¬(buf = .qh ∧ s.q = [])) (h : a + b ≤ (bufferBytes s buf).length) :
    source s buf a b = .ok (((bufferBytes s buf).drop a).take b) := by
  rw [source_spec, if_neg hq, if_neg (by omega)]

/-- A legal range: its length and each of its bytes. -/
theorem source_ok_bytes (hq : ¬(buf = .qh ∧ s.q = [])) (h : a + b ≤ (bufferBytes s buf).length) :
    ∃ d, source s buf a b = .ok d ∧ d.length = b ∧
      ∀ k, k < b → d[k]? = (bufferBytes s buf)[a + k]? := by
  refine ⟨_, source_ok hq h, by rw [List.length_take, List.length_drop]; omega, fun k hk => ?_⟩
  rw [List.getElem?_take_of_lt hk, List.getElem?_drop]

end

/-- TXBUF or RXBUF, by its bytes. -/
theorem source_buffer {s : State} {buf : BufSel} {B : Buffer} (hbuf : buf ≠ .qh)
    (hB : bufferBytes s buf = B.toList) (a b : Nat) :
    (a + b > 32 → source s buf a b = .error .range) ∧
    (a + b ≤ 32 → ∃ d, source s buf a b = .ok d ∧ d.length = b ∧
      ∀ k, k < b → d[k]? = some (readByte B (a + k))) := by
  have hq : ¬(buf = .qh ∧ s.q = []) := fun h => hbuf h.1
  have hlen : (bufferBytes s buf).length = 32 := by rw [hB, Vector.length_toList]
  refine ⟨fun h => source_range hq (by omega), fun h => ?_⟩
  obtain ⟨d, hd, hdlen, hbytes⟩ := source_ok_bytes (a := a) (b := b) hq (by omega)
  refine ⟨d, hd, hdlen, fun k hk => ?_⟩
  have hlt : a + k < Config.maxLen := by simp only [Config.maxLen]; omega
  rw [hbytes k hk, hB, readByte_eq B hlt]
  simp [hlt]

theorem bufferBytes_head {s : State} {e : Entry} {rest : List Entry} (h : s.q = e :: rest) :
    bufferBytes s .qh = e.data := by simp [bufferBytes, h]

theorem source_tx {s : State} {a b : Nat} (h : a + b ≤ 32) :
    source s .tx a b = .ok (slice s.txBuf a (a + b)) :=
  if_neg (Nat.not_lt.mpr h)

/-- Settles O22: the source's cases at each buffer's limit. -/
theorem crcSourceRange : Obligations.CrcSourceRange := by
  intro s a b
  refine ⟨fun B buf hbuf => ?_, fun hq => source_queueEmpty ⟨rfl, hq⟩, fun e rest hq => ?_⟩
  · rcases hbuf with ⟨rfl, rfl⟩ | ⟨rfl, rfl⟩
    · exact source_buffer (by decide) rfl a b
    · exact source_buffer (by decide) rfl a b
  · have hne : ¬(BufSel.qh = .qh ∧ s.q = []) := by simp [hq]
    rw [Entry.n, ← bufferBytes_head hq]
    exact ⟨source_range hne, source_ok_bytes hne⟩

/-! ## The commands -/

section
variable {s : State} {buf : BufSel} {a b : Nat}

theorem exec_crc8_error {c : CmdError} (h : source s buf a b = .error c) :
    exec (.crc8 buf a b) s = .next (s.raise c (encode (.crc8 buf a b))) := by
  simp only [exec, execCrc8, h]

theorem exec_crc8_ok {d : List Byte} (h : source s buf a b = .ok d) :
    exec (.crc8 buf a b) s = .next (s.setResult ((crc8 s.cfg d).setWidth 32)) := by
  simp only [exec, execCrc8, h]

theorem exec_crc16_error {c : CmdError} (h : source s buf a b = .error c) :
    exec (.crc16 buf a b) s = .next (s.raise c (encode (.crc16 buf a b))) := by
  simp only [exec, execCrc16, h]

theorem exec_crc16_ok {d : List Byte} (h : source s buf a b = .ok d) :
    exec (.crc16 buf a b) s = .next ((s.setCrc16Acc (crc16 s.cfg s.crc16Acc d)).setResult
      ((crc16 s.cfg s.crc16Acc d).setWidth 32)) := by
  simp only [exec, execCrc16, h]

end

section
variable {v : Word}

theorem runCommand_crc_reserved (s : State) (hop : bits v 3 0 = 3 ∨ bits v 3 0 = 4)
    (h : bits v 6 6 ≠ 0 ∨ bits v 5 4 = 3 ∨ bits v 7 7 ≠ 0 ∨ bits v 31 24 ≠ 0) :
    runCommand v s = .next (s.raise .reserved v) := by
  refine runCommand_error s ?_
  rcases or_assoc.mpr h with hoperand | hreserved
  · exact decode_crc_reserved hop hoperand
  · rcases hop with hop | hop
    · exact decode_reservedBits (op := .crc8) hop hreserved
    · exact decode_reservedBits (op := .crc16) hop hreserved

variable {buf : BufSel} (hf : bits v 6 6 = 0) (hsel : bits v 5 4 = buf.code) (h7 : bits v 7 7 = 0)
  (htop : bits v 31 24 = 0)
include hf hsel h7 htop

theorem runCommand_crc8 (s : State) (hop : bits v 3 0 = 3) :
    runCommand v s = exec (.crc8 buf (bits v 15 8) (bits v 23 16)) s :=
  runCommand_ok s ((decode_operands (op := .crc8) hop h7 htop).trans (decodeCrc_code .crc8 hf hsel))

theorem runCommand_crc16 (s : State) (hop : bits v 3 0 = 4) :
    runCommand v s = exec (.crc16 buf (bits v 15 8) (bits v 23 16)) s :=
  runCommand_ok s ((decode_operands (op := .crc16) hop h7 htop).trans (decodeCrc_code .crc16 hf hsel))

end

/-- Settles O20: the source's three cases, each with what CRC8 does there, and the decoder's tests. -/
theorem crc8CommandResult : Obligations.Crc8CommandResult := by
  intro s buf a b _ _
  refine ⟨fun hb hq => exec_crc8_error (source_queueEmpty ⟨hb, hq⟩),
    fun hq h => exec_crc8_error (source_range hq h),
    fun hq h => ⟨_, exec_crc8_ok (source_ok hq h), BitVec.toNat_setWidth_of_le (by decide), ?_⟩,
    fun v hop => ⟨runCommand_crc_reserved s (.inl hop),
      fun hf hsel h7 htop => runCommand_crc8 hf hsel h7 htop s hop⟩⟩
  simp

/-- Settles O21: the source's three cases, each with what CRC16 does there, and the decoder's tests. -/
theorem crc16CommandResult : Obligations.Crc16CommandResult := by
  intro s buf a b _ _
  refine ⟨fun hb hq => exec_crc16_error (source_queueEmpty ⟨hb, hq⟩),
    fun hq h => exec_crc16_error (source_range hq h),
    fun hq h => ⟨_, exec_crc16_ok (source_ok hq h), rfl, BitVec.toNat_setWidth_of_le (by decide), ?_⟩,
    fun v hop => ⟨runCommand_crc_reserved s (.inr hop),
      fun hf hsel h7 htop => runCommand_crc16 hf hsel h7 htop s hop⟩⟩
  simp

/-! ## FIN with the CRC-16 asked for and L > 10 (41_framing.md R104) -/

theorem crc16Bytes_value (c : Half) :
    256 * ((crc16Bytes c)[0]?.getD 0).toNat + ((crc16Bytes c)[1]?.getD 0).toNat = c.toNat := by
  simp only [crc16Bytes, List.getElem?_cons_zero, List.getElem?_cons_succ, Option.getD_some,
    BitVec.extractLsb'_toNat, Nat.shiftRight_eq_div_pow]
  omega

section
variable {len : Nat} (h : 10 < len)
include h

theorem finHasCrc16_of_payload : finHasCrc16 true len = true := by simp [finHasCrc16, h]

theorem finCrc8At_of_payload : finCrc8At true len = len + 2 := by
  rw [finCrc8At, if_pos (finHasCrc16_of_payload h)]

theorem finLength_of_payload : finLength true len = len + 3 := by
  rw [finLength, finCrc8At_of_payload h]

theorem finWithCrc16_of_payload (s : State) : finWithCrc16 s true len =
    writeBytes s.txBuf len (crc16Bytes (crc16 s.cfg s.cfg.crc16Init (slice s.txBuf 10 len))) := by
  rw [finWithCrc16, if_pos (finHasCrc16_of_payload h)]

end

theorem exec_fin_fits {f : Bool} {len : Nat} (s : State) (h : finLength f len ≤ Config.maxLen) :
    exec (.fin f len) s = .next ((s.setTx (finBuffer s f len)
      (BitVec.ofNat 8 (finLength f len))).setResult (BitVec.ofNat 32 (finLength f len))) := by
  rw [exec, execFin, if_neg (by omega)]

/-- FIN's second write leaves the bytes before the CRC-8 as its first one made them. -/
theorem readByte_finBuffer_before (s : State) (f : Bool) {len i : Nat} (h : i < finCrc8At f len) :
    readByte (finBuffer s f len) i = readByte (finWithCrc16 s f len) i := by
  rw [finBuffer, readByte_writeByte, if_neg (by omega)]

/-- The bytes over which FIN computed the CRC-16 are still there. -/
theorem slice_finBuffer_payload (s : State) {len : Nat} (h : 10 < len) :
    slice (finBuffer s true len) 10 len = slice s.txBuf 10 len := by
  refine slice_congr fun i _ hi => ?_
  rw [readByte_finBuffer_before s true (by rw [finCrc8At_of_payload h]; omega),
    finWithCrc16_of_payload h, readByte_writeBytes, if_neg (by omega)]

/-- The two bytes at L are the CRC-16, high byte first. -/
theorem finBuffer_crc16_value (s : State) {len : Nat} (h : 10 < len) (hfits : len ≤ 29) :
    256 * (readByte (finBuffer s true len) len).toNat
        + (readByte (finBuffer s true len) (len + 1)).toNat =
      (crc16 s.cfg s.cfg.crc16Init (slice s.txBuf 10 len)).toNat := by
  have hbyte : ∀ k, k < 2 → readByte (finBuffer s true len) (len + k) =
      (crc16Bytes (crc16 s.cfg s.cfg.crc16Init (slice s.txBuf 10 len)))[k]?.getD 0 := fun k hk => by
    have hmax : len + k < Config.maxLen := show len + k < 32 by omega
    rw [readByte_finBuffer_before s true (by rw [finCrc8At_of_payload h]; omega),
      finWithCrc16_of_payload h, readByte_writeBytes, Nat.add_sub_cancel_left]
    exact if_pos ⟨by omega, Nat.add_lt_add_left hk len, hmax⟩
  rw [show readByte _ len = _ from hbyte 0 (by omega), hbyte 1 (by omega)]
  exact crc16Bytes_value _

/-- What a FIN with payload and CRC-16 that fits leaves for a consumer. -/
theorem exec_fin_payload (s : State) {len : Nat} (h : 10 < len) (hfits : len ≤ 29) :
    ∃ t, exec (.fin true len) s = .next t ∧ t.txLen.toNat = len + 3 ∧
      t.txBuf = finBuffer s true len ∧ t.cfg = s.cfg := by
  have hT : finLength true len = len + 3 := finLength_of_payload h
  refine ⟨_, exec_fin_fits s (show _ ≤ 32 by omega), ?_, rfl, rfl⟩
  rw [State.setResult_txLen, State.setTx_txLen, hT, BitVec.toNat_ofNat]
  omega

/-! ## A consumer's checks (R99, R100) -/

theorem setWidth_word_inj {x y : Byte} : x.setWidth 32 = (y.setWidth 32 : Word) ↔ x = y := by
  simp only [BitVec.toNat_eq, BitVec.toNat_setWidth_of_le (show 8 ≤ 32 by decide)]

/-- R114's status as a comparison with the byte that the window shows last. -/
theorem crc8Matches_iff {cfg : Config} {d : List Byte} (h : 2 ≤ d.length) :
    crc8Matches cfg d = true ↔ crc8 cfg (d.take (d.length - 1)) = d[d.length - 1] := by
  have hlast : d.getLast? = some d[d.length - 1] := by
    rw [List.getLast?_eq_getElem?, List.getElem?_eq_getElem (by omega)]
  simp [crc8Matches, h, hlast, List.dropLast_eq_take, eq_comm]

/-- Settles O23: the command's RESULT is one side of R114's comparison, the window word the other. -/
theorem consumerChecksCrc8 : Obligations.ConsumerChecksCrc8 := by
  intro s e rest hinv hq
  have he : e.Ok s.cfg := hinv.entries e (by simp [hq])
  have hlo : 5 ≤ e.data.length := he.showsAddress
  have hhi : e.data.length ≤ 32 := (le_of_eq he.len).trans (Nat.min_le_right _ _)
  have hsource := source_ok (s := s) (buf := .qh) (a := 0) (b := e.data.length - 1) (by simp [hq])
    (by rw [bufferBytes_head hq]; omega)
  refine ⟨_, exec_crc8_ok hsource, ?_⟩
  rw [he.crc8ok_iff, crc8Matches_iff (by omega), State.setResult_result, bufferBytes_head hq,
    List.drop_zero, readTarget_queueHead s (show e.data.length - 1 < 32 by omega), setWidth_word_inj,
    queueHeadByte_cons hq,
    dif_pos (show e.data.length - 1 < e.data.length by omega)]

/-- Settles O24: CRC16 runs over the bytes FIN ran over, and from the same value. -/
theorem consumerChecksCrc16 : Obligations.ConsumerChecksCrc16 := by
  intro s len h hfits
  obtain ⟨t, hfin, hT, hbuf, hcfg⟩ := exec_fin_payload s h hfits
  have hsource : source (t.setCrc16Acc s.cfg.crc16Init) .tx 10 (t.txLen.toNat - 13) =
      .ok (slice s.txBuf 10 len) := by
    rw [source_tx (by omega), State.setCrc16Acc_txBuf, hbuf,
      show 10 + (t.txLen.toNat - 13) = len by omega, slice_finBuffer_payload s h]
  refine ⟨t, _, hfin, hT, exec_crc16_ok hsource, ?_⟩
  simp only [State.setResult_result, State.setResult_txBuf, State.setCrc16Acc_crc16Acc,
    State.setCrc16Acc_txBuf, State.setCrc16Acc_cfg, hbuf, hcfg, hT, Nat.add_sub_cancel,
    Nat.reduceSubDiff, finBuffer_crc16_value s h hfits]
  exact BitVec.toNat_setWidth_of_le (by decide)

end Sys2Proof.Machine
end

section
/-! PROOFS. The statements about the framer (41_framing.md R102 to R106): the bytes HDR leaves, the bytes FIN
leaves and keeps, and the finished frame at the address check. -/

namespace Sys2Proof

/-! ## Words of HDR and FIN -/

theorem decodeHdr_fields {v : Word} (h : ¬BadOperands v .hdr) :
    decodeHdr v = .ok (.hdr (bits v 15 8) (bits v 23 16)) := if_neg h

theorem decodeFin_fields {v : Word} (h : ¬BadOperands v .fin) :
    decodeFin v = .ok (.fin (bits v 6 6 == 1) (bits v 15 8)) := if_neg h

end Sys2Proof

namespace Sys2Proof.Machine

section
variable {v : Word} {op : Op} (hop : bits v 3 0 = op.code)
include hop

/-- A defined OP with a bad operand or a reserved bit set is RESERVED. -/
theorem runCommand_reserved (s : State) (h : BadOperands v op ∨ bits v 7 7 ≠ 0 ∨ bits v 31 24 ≠ 0) :
    runCommand v s = .next (s.raise .reserved v) :=
  runCommand_error s (h.elim (decode_reserved hop) (decode_reservedBits hop))

/-- Every other word of that OP runs what its operands decode to. -/
theorem runCommand_accepted {i : Instr} (s : State)
    (h : ¬(BadOperands v op ∨ bits v 7 7 ≠ 0 ∨ bits v 31 24 ≠ 0))
    (hdecode : ¬BadOperands v op → decodeOperands v op = .ok i) : runCommand v s = exec i s := by
  obtain ⟨hoperands, hreserved⟩ := not_or.mp h
  exact runCommand_ok s ((decode_operands hop (by omega) (by omega)).trans (hdecode hoperands))

end

theorem runCommand_hdr (s : State) {v : Word} (hop : bits v 3 0 = 1) :
    if bits v 5 4 ≠ 0 ∨ bits v 6 6 ≠ 0 ∨ bits v 7 7 ≠ 0 ∨ bits v 31 24 ≠ 0 then
      runCommand v s = .next (s.raise .reserved v)
    else runCommand v s = exec (.hdr (bits v 15 8) (bits v 23 16)) s := by
  split
  · next h => exact runCommand_reserved (op := .hdr) hop s (or_assoc.mpr h)
  · next h => exact runCommand_accepted (op := .hdr) hop s (mt or_assoc.mp h) decodeHdr_fields

theorem runCommand_fin (s : State) {v : Word} (hop : bits v 3 0 = 2) :
    if bits v 5 4 ≠ 0 ∨ bits v 23 16 ≠ 0 ∨ bits v 7 7 ≠ 0 ∨ bits v 31 24 ≠ 0 then
      runCommand v s = .next (s.raise .reserved v)
    else runCommand v s = exec (.fin (bits v 6 6 == 1) (bits v 15 8)) s := by
  split
  · next h => exact runCommand_reserved (op := .fin) hop s (or_assoc.mpr h)
  · next h => exact runCommand_accepted (op := .fin) hop s (mt or_assoc.mp h) decodeFin_fields

/-! ## The bytes HDR leaves (R102) -/

theorem byteAt_toNat (v : Word) (lo : Nat) : (byteAt v lo).toNat = bits v (lo + 7) lo :=
  (eq_byteAt_iff _ v lo).mp rfl

theorem length_headerBytes (s : State) (mid idx : Nat) : (headerBytes s mid idx).length = 32 := rfl

/-- TXBUF after HDR; `headerBytes` fills it whole, so nothing of the buffer before shows. -/
def hdrBuffer (s : State) (mid idx : Nat) : Buffer := writeBytes s.txBuf 0 (headerBytes s mid idx)

theorem exec_hdr (s : State) (mid idx : Nat) :
    exec (.hdr mid idx) s = .next (s.setTx (hdrBuffer s mid idx) 0) := rfl

theorem readByte_hdrBuffer (s : State) (mid idx i : Nat) :
    readByte (hdrBuffer s mid idx) i = (headerBytes s mid idx)[i]?.getD 0 := by
  by_cases h : i < 32
  · rw [hdrBuffer, readByte_writeBytes, length_headerBytes, Nat.sub_zero]
    exact if_pos ⟨by omega, by omega, h⟩
  · rw [readByte_beyond _ (Nat.not_lt.mp h), List.getElem?_eq_none (Nat.not_lt.mp h)]
    rfl

theorem hdrBuffer_zeros (s : State) (mid idx : Nat) {i : Nat} (h : 10 ≤ i) :
    readByte (hdrBuffer s mid idx) i = 0 := by
  rw [readByte_hdrBuffer, headerBytes, List.getElem?_append_right (by exact h),
    List.getElem?_replicate]
  split <;> rfl

/-- Bytes 1 to 4 of a buffer are the inverter address in wire order (R63). -/
def ShowsAddress (b : Buffer) (inv : Word) : Prop :=
  (readByte b 1).toNat = bits inv 31 24 ∧ (readByte b 2).toNat = bits inv 23 16 ∧
    (readByte b 3).toNat = bits inv 15 8 ∧ (readByte b 4).toNat = bits inv 7 0

theorem stagedAddressPasses_iff (s : State) :
    StagedAddressPasses s ↔ 5 ≤ stagedLen s ∧ ShowsAddress s.rxBuf s.invAddr := Iff.rfl

theorem ShowsAddress.congr {b c : Buffer} {inv : Word} (h : ShowsAddress b inv)
    (hbytes : ∀ i, i < 5 → readByte c i = readByte b i) : ShowsAddress c inv := by
  rw [ShowsAddress, hbytes 1 (by omega), hbytes 2 (by omega), hbytes 3 (by omega), hbytes 4 (by omega)]
  exact h

theorem hdrBuffer_showsAddress (s : State) (mid idx : Nat) :
    ShowsAddress (hdrBuffer s mid idx) s.invAddr := by
  simp only [ShowsAddress, readByte_hdrBuffer]
  exact ⟨byteAt_toNat _ 24, byteAt_toNat _ 16, byteAt_toNat _ 8, byteAt_toNat _ 0⟩

/-- Bytes 5 to 8 are the station address, low byte first (R62). -/
theorem hdrBuffer_stationBytes (s : State) (mid idx : Nat) :
    (readByte (hdrBuffer s mid idx) 5).toNat = bits s.stnAddr 7 0 ∧
      (readByte (hdrBuffer s mid idx) 6).toNat = bits s.stnAddr 15 8 ∧
      (readByte (hdrBuffer s mid idx) 7).toNat = bits s.stnAddr 23 16 ∧
      (readByte (hdrBuffer s mid idx) 8).toNat = bits s.stnAddr 31 24 := by
  simp only [readByte_hdrBuffer]
  exact ⟨byteAt_toNat _ 0, byteAt_toNat _ 8, byteAt_toNat _ 16, byteAt_toNat _ 24⟩

/-- The message id in front of the addresses and the frame index behind them. -/
theorem hdrBuffer_operands (s : State) {mid idx : Nat} (hmid : mid < 256) (hidx : idx < 256) :
    (readByte (hdrBuffer s mid idx) 0).toNat = mid ∧ (readByte (hdrBuffer s mid idx) 9).toNat = idx := by
  simp only [readByte_hdrBuffer]
  exact ⟨Nat.mod_eq_of_lt hmid, Nat.mod_eq_of_lt hidx⟩

/-- Settles O14: the bytes of HDR's buffer, the frame of `setTx`, and the decoder's tests. -/
theorem hdrBuildsHeader : Obligations.HdrBuildsHeader := by
  intro s mid idx hmid hidx
  obtain ⟨h0, h9⟩ := hdrBuffer_operands s hmid hidx
  obtain ⟨h1, h2, h3, h4⟩ := hdrBuffer_showsAddress s mid idx
  obtain ⟨h5, h6, h7, h8⟩ := hdrBuffer_stationBytes s mid idx
  refine ⟨⟨_, exec_hdr s mid idx, h0, h1, h2, h3, h4, h5, h6, h7, h8, h9,
    fun _ h _ => hdrBuffer_zeros s mid idx h, rfl, ?_⟩, fun v => runCommand_hdr s⟩
  simp

/-! ## FIN's length (R105) -/

theorem finLength_eq (f : Bool) (len : Nat) :
    finLength f len = len + (if f = true ∧ 10 < len then 2 else 0) + 1 := by
  simp only [finLength, finCrc8At, finHasCrc16, Bool.and_eq_true, decide_eq_true_eq]
  split <;> rfl

/-- The CRC-8 is the finished frame's last byte. -/
theorem finLength_sub_one (f : Bool) (len : Nat) : finLength f len - 1 = finCrc8At f len := rfl

theorem len_le_finCrc8At (f : Bool) (len : Nat) : len ≤ finCrc8At f len := by
  unfold finCrc8At
  split <;> omega

theorem ownError_fin_none {s : State} {f : Bool} {len : Nat} :
    ownError s (.fin f len) = none ↔ finLength f len ≤ 32 := by
  rw [ownError, ← finLength_eq]
  split
  · next h => exact ⟨fun hnone => (nomatch hnone), fun hle => absurd hle (Nat.not_le.mpr h)⟩
  · next h => exact ⟨fun _ => Nat.not_lt.mp h, fun _ => rfl⟩

/-! ## The bytes FIN leaves and keeps (R104) -/

/-- The CRC-16 goes to the two bytes at L; every other byte stays. -/
theorem readByte_finWithCrc16_outside (s : State) {f : Bool} {len i : Nat}
    (h : i < len ∨ finCrc8At f len ≤ i) : readByte (finWithCrc16 s f len) i = readByte s.txBuf i := by
  unfold finWithCrc16
  unfold finCrc8At at h
  split
  · next hcrc =>
    rw [if_pos hcrc] at h
    rw [readByte_writeBytes, if_neg (by simp only [crc16Bytes, List.length_cons, List.length_nil]; omega)]
  · rfl

theorem readByte_finBuffer_outside (s : State) {f : Bool} {len i : Nat}
    (h : i < len ∨ finLength f len ≤ i) : readByte (finBuffer s f len) i = readByte s.txBuf i := by
  have hk := len_le_finCrc8At f len
  rw [finLength] at h
  rw [finBuffer, readByte_writeByte, if_neg (by omega), readByte_finWithCrc16_outside s (by omega)]

/-- FIN's last byte is the CRC-8 of the bytes before it, which the write of that byte leaves alone. -/
theorem finBuffer_crc8 (s : State) {f : Bool} {len : Nat} (hfits : finLength f len ≤ 32) :
    readByte (finBuffer s f len) (finCrc8At f len) =
      crc8 s.cfg (slice (finBuffer s f len) 0 (finCrc8At f len)) := by
  have hbefore : slice (finBuffer s f len) 0 (finCrc8At f len) =
      slice (finWithCrc16 s f len) 0 (finCrc8At f len) :=
    slice_congr fun _ _ hi => readByte_finBuffer_before s f hi
  rw [hbefore, finBuffer, readByte_writeByte]
  exact if_pos ⟨rfl, hfits⟩

/-- With the default CRC-8 a finished frame checks to 0 (R95 (c)). -/
theorem finBuffer_crc8_default (s : State) {f : Bool} {len : Nat} (hfits : finLength f len ≤ 32)
    (hpoly : s.cfg.crc8Poly = 0x01) (hinit : s.cfg.crc8Init = 0x00) :
    crc8 s.cfg (slice (finBuffer s f len) 0 (finLength f len)) = 0 := by
  rw [finLength, slice_succ _ _ hfits, finBuffer_crc8 s hfits]
  exact crc8_default_self hpoly hinit _

/-- The CRC-16's two bytes, each on its own. -/
theorem finBuffer_crc16_bytes (s : State) {len : Nat} (h : 10 < len) (hfits : len ≤ 29) :
    (readByte (finBuffer s true len) len).toNat =
        (crc16 s.cfg s.cfg.crc16Init (slice s.txBuf 10 len)).toNat / 256 ∧
      (readByte (finBuffer s true len) (len + 1)).toNat =
        (crc16 s.cfg s.cfg.crc16Init (slice s.txBuf 10 len)).toNat % 256 := by
  rw [← finBuffer_crc16_value s h hfits]
  omega

/-! ## FIN -/

theorem exec_fin_overflow {f : Bool} {len : Nat} (s : State) (h : 32 < finLength f len) :
    exec (.fin f len) s = .next (s.raise .finOverflow (encode (.fin f len))) := if_pos h

/-- All that a FIN that fits does to the state. -/
theorem exec_fin_effect {f : Bool} {len : Nat} (s : State) (hfits : finLength f len ≤ 32) :
    ∃ t, exec (.fin f len) s = .next t ∧ t.txBuf = finBuffer s f len ∧
      t.txLen.toNat = finLength f len ∧ t.result.toNat = finLength f len ∧
      s.SameReassembly t ∧ s.sameAcc t ∧ s.sameError t := by
  refine ⟨_, exec_fin_fits s hfits, rfl, Nat.mod_eq_of_lt (by omega), Nat.mod_eq_of_lt (by omega),
    s.setTx_setResult_sameReassembly .., ?_⟩
  simp

/-- Settles O15: FIN's buffer byte by byte, the length law at the two limits, and the decoder's tests. -/
theorem finAppendsCrcsOrOverflows : Obligations.FinAppendsCrcsOrOverflows := by
  refine fun s => ⟨fun f len T hT hfits => ?_, fun len h _ => exec_fin_overflow s ?_,
    fun len h _ => exec_fin_overflow s ?_, s.raise_sameButError _, fun v => runCommand_fin s⟩
  · rw [← finLength_eq] at hT
    subst hT
    obtain ⟨t, ht, hbuf, hlen, hresult, hkeeps, hacc, herror⟩ := exec_fin_effect s hfits
    refine ⟨t, ht, ?_⟩
    rw [hbuf, finLength_sub_one]
    refine ⟨?_, finBuffer_crc8 s hfits, fun i => readByte_finBuffer_outside s, hlen, hresult,
      hkeeps.staging, hkeeps.addrs, hacc, herror, hkeeps.sticky, hkeeps.attempt, hkeeps.drops,
      hkeeps.queue, hkeeps.own⟩
    rintro rfl h
    rw [finLength_of_payload h] at hfits
    exact finBuffer_crc16_bytes s h (by omega)
  · rw [finLength_of_payload (by omega)]
    omega
  · rw [finLength_eq, if_neg (by simp)]
    omega

/-- Settles O16: the last byte of FIN's buffer, and R95 (c) for the frame it ends. -/
theorem finishedFrameChecks : Obligations.FinishedFrameChecks := by
  intro s f len hown
  have hfits := ownError_fin_none.mp hown
  obtain ⟨t, ht, hbuf, hlen, _⟩ := exec_fin_effect s hfits
  refine ⟨t, ht, ?_⟩
  rw [hlen, hbuf, finLength_sub_one]
  exact ⟨Nat.le_add_left 1 _, hfits, finBuffer_crc8 s hfits, finBuffer_crc8_default s hfits⟩

/-! ## The finished frame at the address check (R63, R106) -/

/-- Settles O17: FIN with L of at least 10 keeps HDR's address bytes, and the finished frame has them. -/
theorem ownFramePassesAddressCheck : Obligations.OwnFramePassesAddressCheck := by
  intro s mid idx f len _ _ hlen hown
  have hfits := ownError_fin_none.mp hown
  obtain ⟨u, hu, hbuf, hT, _⟩ := exec_fin_effect (s.setTx (hdrBuffer s mid idx) 0) hfits
  refine ⟨_, u, exec_hdr s mid idx, hu, fun r hinv hrx hrxLen => ?_⟩
  have hpasses : StagedAddressPasses r := by
    rw [stagedAddressPasses_iff, stagedLen, hrxLen, hT, hinv, hrx, hbuf]
    refine ⟨?_, (hdrBuffer_showsAddress s mid idx).congr fun i hi => ?_⟩
    · have hk := len_le_finCrc8At f len
      exact le_min (show 5 ≤ finCrc8At f len + 1 by omega) (by decide)
    · exact readByte_finBuffer_outside _ (.inl (by omega))
  exact ⟨hpasses, (addressOk_stagedFrame r).mpr hpasses⟩

end Sys2Proof.Machine
end

section
/-! PROOFS. The layer under the statements about reassembly (42_reassembly.md): the staged frame byte by byte, and
each outcome of a PUSH with what it keeps. -/

namespace Sys2Proof.Machine

/-! ## The staged frame (R110, R114, R115) -/

theorem length_stagedFrame_eq (s : State) : (stagedFrame s).length = stagedLen s := length_stagedFrame s

theorem stagedFrame_byte {s : State} {k : Nat} (h : k < stagedLen s) :
    (stagedFrame s)[k]? = some (readByte s.rxBuf k) := by
  rw [getElem?_stagedFrame]
  exact if_pos h

theorem take_stagedFrame {s : State} {k : Nat} (h : k ≤ stagedLen s) :
    (stagedFrame s).take k = slice s.rxBuf 0 k := by
  unfold stagedLen at h
  simp only [stagedFrame, slice, List.take_take, Nat.sub_zero, Nat.min_eq_left h]

/-- R115's marker as PUSH computes it. -/
theorem lastMarker_stagedFrame (s : State) : lastMarker (stagedFrame s) = true ↔ StagedLast s := by
  rw [lastMarker, StagedLast, length_stagedFrame_eq]
  by_cases h : 10 ≤ stagedLen s
  · simp [frameIndex, stagedFrame_byte (show 9 < stagedLen s by omega), h]
  · simp [h]

/-- R114's CRC-8 status as PUSH computes it. -/
theorem crc8Matches_stagedFrame (s : State) :
    crc8Matches s.cfg (stagedFrame s) = true ↔ StagedCrc8Ok s := by
  rw [crc8Matches, StagedCrc8Ok, length_stagedFrame_eq]
  by_cases h : 2 ≤ stagedLen s
  · rw [List.getLast?_eq_getElem?, List.dropLast_eq_take, length_stagedFrame_eq, stagedFrame_byte (by omega),
      take_stagedFrame (by omega)]
    simp [h, eq_comm]
  · simp [h]

/-- A last frame's index is 0x81 to 0xFF, so R115's count is at least 1 and fits EXP_CNT. -/
theorem expectedCount_stagedFrame {s : State} (h : StagedLast s) :
    (expectedCount (stagedFrame s)).toNat = (readByte s.rxBuf 9).toNat - 0x80 := by
  obtain ⟨hlen, hindex⟩ := h
  rw [expectedCount, frameIndex, stagedFrame_byte (by omega), Option.getD_some, BitVec.toNat_ofNat]
  omega

/-! ## The outcomes of a PUSH (R109) -/

section
variable {s : State}

theorem exec_push_ignored (hl : s.fsm ≠ .listen) : exec .push s = .next (pushIgnored s) := by
  simp [exec, execPush, hl]

theorem exec_push_foreign (hl : s.fsm = .listen) (hp : ¬StagedAddressPasses s) :
    exec .push s = .next (pushForeign s) := by
  rw [← addressOk_stagedFrame] at hp
  simp [exec, execPush, hl, hp]

theorem exec_push_overflow (hl : s.fsm = .listen) (hp : StagedAddressPasses s)
    (hq : s.q.length = s.cfg.queueDepth) : exec .push s = .next (pushOverflow s) := by
  simp [exec, execPush, hl, (addressOk_stagedFrame s).mpr hp, hq]

theorem exec_push_queued (hl : s.fsm = .listen) (hp : StagedAddressPasses s)
    (hq : s.q.length ≠ s.cfg.queueDepth) : exec .push s = .next (pushQueued s) := by
  simp [exec, execPush, hl, (addressOk_stagedFrame s).mpr hp, hq]

/-- What queuing a last frame does to the attempt (R115). -/
theorem pushQueued_last (h : StagedLast s) :
    (pushQueued s).fsm = .done ∧ (pushQueued s).lastSeen = true ∧
      (pushQueued s).expCnt = expectedCount (stagedFrame s) ∧ (pushQueued s).result = 1 := by
  simp [pushQueued, (lastMarker_stagedFrame s).mpr h]

/-- Any other queued frame leaves the attempt open. -/
theorem pushQueued_notLast (h : ¬StagedLast s) :
    (pushQueued s).fsm = s.fsm ∧ (pushQueued s).lastSeen = s.lastSeen ∧
      (pushQueued s).expCnt = s.expCnt ∧ (pushQueued s).result = 0 := by
  rw [← lastMarker_stagedFrame] at h
  simp [pushQueued, h]

end

/-- What no PUSH changes, whatever its outcome (R111 to R115). -/
structure PushKeeps (s t : State) : Prop where
  tx : s.sameTx t
  staging : s.sameStaging t
  addrs : s.sameAddrs t
  acc : s.sameAcc t
  error : s.sameError t
  own : s.sameOwn t

theorem pushIgnored_keeps (s : State) : PushKeeps s (pushIgnored s) := by
  constructor <;> simp [pushIgnored]

theorem pushForeign_keeps (s : State) : PushKeeps s (pushForeign s) := by
  constructor <;> simp [pushForeign]

theorem pushOverflow_keeps (s : State) : PushKeeps s (pushOverflow s) := by
  constructor <;> simp [pushOverflow]

theorem pushQueued_keeps (s : State) : PushKeeps s (pushQueued s) := by
  unfold pushQueued
  simp only []
  split <;> constructor <;> simp

theorem PushEffect.keeps {s t : State} (h : PushEffect s t) : PushKeeps s t := by
  cases h with
  | ignored => exact pushIgnored_keeps s
  | foreign => exact pushForeign_keeps s
  | overflow => exact pushOverflow_keeps s
  | queued => exact pushQueued_keeps s

/-! ## The entry of a queued frame -/

theorem stagedEntry_n (s : State) : (stagedEntry s).n = stagedLen s := length_stagedFrame s

theorem stagedEntry_byte {s : State} {k : Nat} (h : k < stagedLen s) :
    (stagedEntry s).data[k]? = some (readByte s.rxBuf k) := stagedFrame_byte h

theorem stagedEntry_trunc (s : State) : (stagedEntry s).trunc = true ↔ 32 < s.rxLen.toNat :=
  decide_eq_true_iff

theorem stagedEntry_crc8ok (s : State) : (stagedEntry s).crc8ok = true ↔ StagedCrc8Ok s :=
  crc8Matches_stagedFrame s

theorem stagedEntry_last (s : State) : (stagedEntry s).last = true ↔ StagedLast s :=
  lastMarker_stagedFrame s

/-- An entry is as its PUSH made it, by its definition; the address check gives it its 5 bytes. -/
theorem stagedEntry_ok {s : State} (hp : StagedAddressPasses s) : (stagedEntry s).Ok s.cfg where
  len := stagedEntry_n s
  showsAddress := by rw [stagedEntry_n]; exact hp.1
  trunc_iff := rfl
  crc8ok_iff := rfl
  last_iff := rfl

/-- Where an entry of Q after a host action comes from: it was there, or a PUSH made it of a frame that passed
the address check (R122). -/
theorem perform_entry_cases {s t : State} {a : HostAction} (h : perform a s = .next t) {e : Entry}
    (he : e ∈ t.q) : e ∈ s.q ∨ (a = .write allLanes 0x000 0x00000007 ∧ s.fsm = .listen ∧
      StagedAddressPasses s ∧ e = stagedEntry s) := by
  rcases perform_next_cases h with ⟨_, rfl⟩ | ⟨_, _, _, rfl⟩ | ⟨v, rfl, hc⟩ | ⟨off, v, _, _, _, rfl⟩
  · simp [resetBlock_eq] at he
  · exact .inl he
  · rcases runCommand_effect hc with hk | ⟨i, rfl, heff⟩
    · exact .inl (hk.queue ▸ he)
    · cases heff with
      | keeps hk => exact .inl (hk.queue ▸ he)
      | arm => exact .inl he
      | disarm => exact .inl he
      | push hpush =>
        cases hpush with
        | ignored => exact .inl he
        | foreign => exact .inl he
        | overflow => exact .inl he
        | queued hl hp =>
          rw [pushQueued_q, List.mem_append, List.mem_singleton] at he
          exact he.imp_right fun he => ⟨rfl, hl, hp, he⟩
      | pop hq => exact .inl (hq ▸ List.mem_cons_of_mem _ he)
      | flush => exact absurd he List.not_mem_nil
  · obtain ⟨_, _, hqueue, _⟩ := writeTarget_keeps s v (target off)
    exact .inl (hqueue ▸ he)

end Sys2Proof.Machine
end

section
/-! PROOFS. The invariant (10_state.md R40, R41, R45 to R48; 60_exceptions.md R126): each part kept by every host
action, then by a step. -/

namespace Sys2Proof.Machine

/-! ## TX_LEN and the error record -/

/-- What a command can do to TX_LEN and to the error record (R105, R127). -/
structure LengthAndRecord (s t : State) : Prop where
  txLen : t.txLen = s.txLen ∨ t.txLen.toNat ≤ Config.maxLen
  record : s.sameError t ∨ ∃ c v, t = s.raise c v

theorem LengthAndRecord.raise (s : State) (c : CmdError) (v : Word) : LengthAndRecord s (s.raise c v) :=
  ⟨.inl (s.raise_txLen c v), .inr ⟨c, v, rfl⟩⟩

theorem exec_lengthAndRecord (i : Instr) (s : State) : ∃ t, exec i s = .next t ∧ LengthAndRecord s t := by
  cases i with
  | nop => exact ⟨s, rfl, .inl rfl, .inl (by simp)⟩
  | hdr mid idx => exact ⟨_, exec_hdr s mid idx, .inr (by simp), .inl (by simp)⟩
  | fin f len =>
    by_cases hfits : finLength f len ≤ 32
    · obtain ⟨t, ht, _, hlen, _, _, _, herror⟩ := exec_fin_effect s hfits
      exact ⟨t, ht, .inr (hlen ▸ hfits), .inl herror⟩
    · exact ⟨_, exec_fin_overflow s (by omega), .raise ..⟩
  | crc8 b x y =>
    cases hsource : source s b x y with
    | error c => exact ⟨_, exec_crc8_error hsource, .raise ..⟩
    | ok d => exact ⟨_, exec_crc8_ok hsource, .inl rfl, .inl (by simp)⟩
  | crc16 b x y =>
    cases hsource : source s b x y with
    | error c => exact ⟨_, exec_crc16_error hsource, .raise ..⟩
    | ok d => exact ⟨_, exec_crc16_ok hsource, .inl rfl, .inl (by simp)⟩
  | arm => exact ⟨_, rfl, .inl rfl, .inl (by simp)⟩
  | disarm => exact ⟨_, rfl, .inl rfl, .inl (by simp)⟩
  | push =>
    obtain ⟨t, ht, he⟩ := exec_push s
    obtain ⟨_, hlen⟩ := State.sameTx_iff.mp he.keeps.tx
    exact ⟨t, ht, .inl hlen, .inl he.keeps.error⟩
  | pop =>
    simp only [exec, execPop]
    split
    · exact ⟨_, rfl, .raise ..⟩
    · exact ⟨_, rfl, .inl rfl, .inl (by simp)⟩
  | flush => exact ⟨_, rfl, .inl rfl, .inl (by simp)⟩

theorem runCommand_lengthAndRecord {v : Word} {s t : State} (h : runCommand v s = .next t) :
    LengthAndRecord s t := by
  cases hd : decode v with
  | error c =>
    rw [runCommand_error s hd] at h
    cases h
    exact .raise ..
  | ok i =>
    rw [runCommand_ok s hd] at h
    obtain ⟨t', ht', he⟩ := exec_lengthAndRecord i s
    rw [ht'] at h
    cases h
    exact he

/-- No store reaches TX_LEN, and of the stores only one to STATUS reaches the error record. -/
theorem writeTarget_lengthAndRecord (s : State) (v : Word) (T : Target) :
    (writeTarget s v T).txLen = s.txLen ∧
      (s.sameError (writeTarget s v T) ∨ writeTarget s v T = s.clearStatus v) := by
  cases T with
  | reg r => cases r <;> simp [writeTarget, writeReg]
  | byte b i => cases b <;> simp [writeTarget]
  | unmapped => simp [writeTarget]

theorem cmdErrorCode_range (c : CmdError) : 1 ≤ c.code.toNat ∧ c.code.toNat ≤ 5 := by cases c <;> decide

section
variable {s t : State}

theorem State.ErrorOk.of_same (hs : s.ErrorOk) (h : s.sameError t) : t.ErrorOk := by
  obtain ⟨herr, hcode, hcmd⟩ := h
  constructor
  · rw [herr, hcode, hcmd]; exact hs.clear
  · rw [herr, hcode]; exact hs.code

theorem State.ErrorOk.raise (hs : s.ErrorOk) (c : CmdError) (v : Word) : (s.raise c v).ErrorOk where
  clear h := by simp at h
  code _ := by
    rw [State.raise_errCode]
    split
    · next herr => exact hs.code herr
    · exact cmdErrorCode_range c

theorem State.ErrorOk.clearStatus (hs : s.ErrorOk) (v : Word) : (s.clearStatus v).ErrorOk := by
  by_cases h0 : bits v 0 0 = 1
  · constructor <;> simp [State.clearStatus_err, State.clearStatus_errCode, State.clearStatus_errCmd, h0]
  · refine hs.of_same ?_
    simp [State.clearStatus_err, State.clearStatus_errCode, State.clearStatus_errCmd, h0]

theorem State.AttemptOk.of_same (hs : s.AttemptOk) (h : s.sameAttempt t) : t.AttemptOk := by
  obtain ⟨hfsm, hseen, hexp, _⟩ := h
  constructor
  · rw [hseen, hexp]; exact hs.unseen
  · rw [hseen, hexp]; exact hs.seen
  · rw [hfsm, hseen]; exact hs.listening
  · rw [hfsm, hseen]; exact hs.done

/-! ## The reassembly state -/

theorem State.AttemptOk.queued (hs : s.AttemptOk) : (pushQueued s).AttemptOk := by
  by_cases hlast : StagedLast s
  · obtain ⟨hfsm, hseen, hexp, _⟩ := pushQueued_last hlast
    have hcount : 1 ≤ (pushQueued s).expCnt.toNat := by
      rw [hexp, expectedCount_stagedFrame hlast]
      have := hlast.2
      omega
    constructor <;> simp [hfsm, hseen, hcount]
  · obtain ⟨hfsm, hseen, hexp, _⟩ := pushQueued_notLast hlast
    exact ⟨by rw [hseen, hexp]; exact hs.unseen, by rw [hseen, hexp]; exact hs.seen,
      by rw [hfsm, hseen]; exact hs.listening, by rw [hfsm, hseen]; exact hs.done⟩

/-- ARM clears LAST_SEEN with EXP_CNT, DISARM keeps both and leaves LISTEN and DONE, and a PUSH sets DONE together
with LAST_SEEN. -/
theorem State.AttemptOk.command {i : Instr} (hs : s.AttemptOk) (h : CommandEffect s i t) : t.AttemptOk := by
  cases h with
  | keeps h => exact hs.of_same h.attempt
  | arm => constructor <;> simp
  | disarm => exact ⟨hs.unseen, hs.seen, fun h => (nomatch h), fun h => (nomatch h)⟩
  | push h =>
    cases h with
    | ignored => exact hs.of_same (by simp [pushIgnored])
    | foreign => exact hs.of_same (by simp [pushForeign])
    | overflow => exact hs.of_same (by simp [pushOverflow])
    | queued => exact hs.queued
  | pop => exact hs.of_same (by simp)
  | flush => exact hs.of_same (by simp)

/-! ## Host actions -/

theorem State.Inv.afterReset {c : Config} (hc : c.wf = true) (k : Nat) (p : List HostAction)
    (r : List Word) : (State.afterReset c k p r).Inv where
  cfg := hc
  txLen := by simp
  depth := by simp
  entries := by simp
  error := by constructor <;> simp
  attempt := by constructor <;> simp

/-- A change that reaches none of the invariant's fields. -/
theorem State.Inv.of_same (hs : s.Inv) (htxLen : t.txLen = s.txLen) (hq : s.sameQueue t)
    (hcfg : t.cfg = s.cfg) (herror : t.ErrorOk) (hattempt : s.sameAttempt t) : t.Inv where
  cfg := hcfg ▸ hs.cfg
  txLen := htxLen ▸ hs.txLen
  depth := by rw [State.sameQueue_iff.mp hq, hcfg]; exact hs.depth
  entries := by rw [State.sameQueue_iff.mp hq, hcfg]; exact hs.entries
  error := herror
  attempt := hs.attempt.of_same hattempt

theorem State.Inv.store (hs : s.Inv) (v : Word) (T : Target) : (writeTarget s v T).Inv := by
  obtain ⟨hattempt, _, hqueue, hown⟩ := writeTarget_keeps s v T
  obtain ⟨hlen, hrecord⟩ := writeTarget_lengthAndRecord s v T
  refine hs.of_same hlen hqueue (State.sameOwn_iff.mp hown).1 ?_ hattempt
  rcases hrecord with hsame | hclear
  · exact hs.error.of_same hsame
  · rw [hclear]; exact hs.error.clearStatus v

theorem State.Inv.command {v : Word} (hs : s.Inv) (h : runCommand v s = .next t) : t.Inv := by
  obtain ⟨hlen, hrecord⟩ := runCommand_lengthAndRecord h
  have hperform : perform (.write allLanes 0x000 v) s = .next t := h
  have hcfg : t.cfg = s.cfg := perform_cfg hperform
  refine ⟨hcfg ▸ hs.cfg, ?_, (queueChangesOnlyByItsCommands s t _ hperform).1 hs.depth, fun e he => ?_, ?_, ?_⟩
  · rcases hlen with hlen | hlen
    · exact hlen ▸ hs.txLen
    · exact hlen
  · rw [hcfg]
    rcases perform_entry_cases hperform he with hold | ⟨_, _, hp, rfl⟩
    · exact hs.entries e hold
    · exact stagedEntry_ok hp
  · rcases hrecord with hsame | ⟨c, w, rfl⟩
    · exact hs.error.of_same hsame
    · exact hs.error.raise c w
  · rcases runCommand_effect h with hk | ⟨i, _, he⟩
    · exact hs.attempt.of_same hk.attempt
    · exact hs.attempt.command he

/-- Every completed host action keeps the invariant. -/
theorem State.Inv.perform {a : HostAction} (hs : s.Inv) (h : perform a s = .next t) : t.Inv := by
  rcases perform_next_cases h with ⟨_, rfl⟩ | ⟨_, _, _, rfl⟩ | ⟨v, _, hc⟩ | ⟨off, v, _, _, _, rfl⟩
  · exact .afterReset hs.cfg ..
  · exact hs.of_same rfl rfl rfl (hs.error.of_same (by simp)) (by simp)
  · exact hs.command hc
  · exact hs.store v (target off)

end

/-- Settles O60: with no action pending nothing changes; else the action keeps the invariant. -/
theorem stepKeepsInvariant : Obligations.StepKeepsInvariant := by
  intro s t hs h
  cases hp : s.pending with
  | nil =>
    rw [step, performNext, hp] at h
    cases h
    exact hs
  | cons a rest =>
    rw [step_performs hp] at h
    have hpending : (s.setPending rest).Inv :=
      hs.of_same rfl rfl rfl (hs.error.of_same (by simp)) (by simp)
    exact hpending.perform h

end Sys2Proof.Machine
end

section
/-! PROOFS. The statements about ARM, DISARM, PUSH, POP and FLUSH (42_reassembly.md): each PUSH outcome in full, the
transitions of FSM, and a response's frames one after another. -/

namespace Sys2Proof.Machine

/-! ## PUSH, outcome by outcome (R109 to R115) -/

/-- Settles O25: PUSH checks FSM first, and what it then does names no byte of RXBUF. -/
theorem pushIsIgnoredUnlessListening : Obligations.PushIsIgnoredUnlessListening := by
  intro s hl
  have hkeeps := pushIgnored_keeps s
  refine ⟨pushIgnored s, exec_push_ignored hl, satInc_toNat s.ignCnt, rfl, rfl, rfl, rfl, rfl,
    hkeeps.tx, hkeeps.staging, hkeeps.addrs, hkeeps.acc, hkeeps.error, ?_, rfl, hkeeps.own,
    fun b => exec_push_ignored (s := { s with rxBuf := b }) hl⟩
  simp [pushIgnored]

/-- Settles O26: the foreign outcome in full, and the two others of a PUSH in LISTEN. -/
theorem pushDropsForeignFrame : Obligations.PushDropsForeignFrame := by
  refine fun s hl => ⟨fun hp => ?_, fun hp => ?_⟩
  · have hkeeps := pushForeign_keeps s
    refine ⟨pushForeign s, exec_push_foreign hl hp, satInc_toNat s.foreignCnt, rfl, rfl, rfl,
      hkeeps.tx, hkeeps.staging, hkeeps.addrs, hkeeps.acc, hkeeps.error, ?_, ?_, rfl, hkeeps.own⟩
    · simp [pushForeign]
    · simp [pushForeign]
  · by_cases hq : s.q.length = s.cfg.queueDepth
    · exact ⟨pushOverflow s, exec_push_overflow hl hp hq, rfl, by simp [pushOverflow]⟩
    · refine ⟨pushQueued s, exec_push_queued hl hp hq, pushQueued_foreignCnt s, ?_⟩
      by_cases hlast : StagedLast s
      · simp [pushQueued_last hlast]
      · simp [pushQueued_notLast hlast]

/-- Settles O27: the overflow outcome in full. -/
theorem pushDropsOnFullQueue : Obligations.PushDropsOnFullQueue := by
  intro s hl hp hq
  have hkeeps := pushOverflow_keeps s
  refine ⟨pushOverflow s, exec_push_overflow hl hp hq, satInc_toNat s.ovfCnt, rfl, rfl, rfl, rfl, rfl,
    hkeeps.tx, hkeeps.staging, hkeeps.addrs, hkeeps.acc, hkeeps.error, ?_, rfl, hkeeps.own⟩
  simp [pushOverflow]

/-- Settles O28: the entry field by field, and the attempt with and without the marker. -/
theorem pushQueuesFrame : Obligations.PushQueuesFrame := by
  intro s hl hp hq
  have hkeeps := pushQueued_keeps s
  refine ⟨pushQueued s, stagedEntry s, exec_push_queued hl hp hq, pushQueued_q s, stagedEntry_n s,
    fun i hi => stagedEntry_byte (stagedEntry_n s ▸ hi), rfl, stagedEntry_trunc s, rfl,
    stagedEntry_crc8ok s, stagedEntry_last s, ?_, fun hlast => ?_, fun hlast => ?_,
    hkeeps.tx, hkeeps.staging, hkeeps.addrs, hkeeps.acc, hkeeps.error, ?_, ?_, hkeeps.own⟩
  · rw [pushQueued_framesRx, satInc_toNat]
  · obtain ⟨hfsm, hseen, hexp, hresult⟩ := pushQueued_last hlast
    exact ⟨hseen, hexp ▸ expectedCount_stagedFrame hlast, hfsm, hresult⟩
  · obtain ⟨hfsm, hseen, hexp, hresult⟩ := pushQueued_notLast hlast
    exact ⟨hseen, hexp, hfsm.trans hl, hresult⟩
  · simp
  · simp

/-- Settles O29: each outcome has its RESULT, so a RESULT tells its outcome. -/
theorem pushCheckOrderAndOutcome : Obligations.PushCheckOrderAndOutcome := by
  intro s
  have hreserved : ∀ v : Word, bits v 3 0 = 7 → bits v 31 4 ≠ 0 →
      runCommand v s = .next (s.raise .reserved v) :=
    fun v hop h => runCommand_reserved (op := .push) hop s (.inl h)
  obtain ⟨t, ht, he⟩ := exec_push s
  refine ⟨t, ht, he.keeps.error, ?_⟩
  cases he with
  | ignored hl => simpa [pushIgnored, hl] using hreserved
  | foreign hl hp => simpa [pushForeign, hl, hp] using hreserved
  | overflow hl hp hq => simpa [pushOverflow, hl, hp, hq] using hreserved
  | queued hl hp hq =>
    by_cases hlast : StagedLast s
    · simpa [pushQueued_last hlast, hl, hp, hq, hlast] using hreserved
    · simpa [pushQueued_notLast hlast, hl, hp, hq, hlast] using hreserved

/-! ## ARM, DISARM, POP, FLUSH (R117 to R120) -/

/-- The state ARM leaves. -/
def armed (s : State) : State := (s.setAttempt .listen false 0 0).setDrops 0 0 0

theorem exec_arm (s : State) : exec .arm s = .next (armed s) := rfl

/-- Settles O31, by ARM's updates and the decoder's third test. -/
theorem armStartsAttempt : Obligations.ArmStartsAttempt := by
  refine fun s => ⟨⟨armed s, exec_arm s, ?_⟩,
    fun v hop h => runCommand_reserved (op := .arm) hop s (.inl h)⟩
  simp [armed, reasmWord_toNat, Fsm.code]

/-- Settles O32, by DISARM's update and the decoder's third test. -/
theorem disarmStopsListening : Obligations.DisarmStopsListening := by
  refine fun s => ⟨⟨s.setAttempt .idle s.lastSeen s.expCnt s.framesRx, rfl, ?_⟩,
    fun v hop h => runCommand_reserved (op := .disarm) hop s (.inl h)⟩
  simp

theorem exec_pop_nil {s : State} (hq : s.q = []) :
    exec .pop s = .next (s.raise .queueEmpty (encode .pop)) := by
  simp [exec, execPop, hq]

theorem exec_pop_cons {s : State} {e : Entry} {rest : List Entry} (hq : s.q = e :: rest) :
    exec .pop s = .next (s.setQ rest) := by
  simp [exec, execPop, hq]

/-- Settles O33: the queue's two forms, and the decoder's third test. -/
theorem popRemovesHead : Obligations.PopRemovesHead := by
  refine fun s => ⟨fun e rest hq => ⟨s.setQ rest, exec_pop_cons hq, ?_⟩, exec_pop_nil,
    fun v hop h => runCommand_reserved (op := .pop) hop s (.inl h)⟩
  simp

/-- Settles O34, by FLUSH's update and the decoder's third test. -/
theorem flushEmptiesQueue : Obligations.FlushEmptiesQueue := by
  refine fun s => ⟨⟨s.setQ [], rfl, rfl, qstatWord_nil rfl, ?_⟩,
    fun v hop h => runCommand_reserved (op := .flush) hop s (.inl h)⟩
  simp

/-! ## The transitions of FSM (R107) -/

theorem CommandEffect.fsm {s t : State} {i : Instr} (h : CommandEffect s i t) (harm : i ≠ .arm)
    (hdisarm : i ≠ .disarm) (hpush : i ≠ .push) : t.fsm = s.fsm := by
  cases h with
  | keeps h => exact (State.sameAttempt_iff.mp h.attempt).1
  | arm => exact absurd rfl harm
  | disarm => exact absurd rfl hdisarm
  | push => exact absurd rfl hpush
  | pop => rfl
  | flush => rfl

/-- ARM, DISARM and PUSH have no error of their own, so no erroneous command reaches FSM. -/
theorem runCommand_fsm_of_raises {s : State} {v : Word} {c : CmdError} (h : Raises s v c) :
    ∃ t, runCommand v s = .next t ∧ t.fsm = s.fsm := by
  rcases h with hd | ⟨i, hd, hown⟩
  · exact ⟨_, runCommand_error s hd, s.raise_fsm c v⟩
  · obtain ⟨t, ht, he⟩ := exec_effect i s
    exact ⟨t, (runCommand_ok s hd).trans ht, he.fsm (by rintro rfl; cases hown)
      (by rintro rfl; cases hown) (by rintro rfl; cases hown)⟩

theorem perform_fsm {s t : State} {a : HostAction} (h : perform a s = .next t) (hreset : a ≠ .reset)
    (hcmd : ∀ v, a ≠ .write allLanes 0x000 v) : t.fsm = s.fsm := by
  rcases perform_next_cases h with ⟨ha, _⟩ | ⟨_, _, _, rfl⟩ | ⟨v, ha, _⟩ | ⟨off, v, _, _, _, rfl⟩
  · exact absurd ha hreset
  · rfl
  · exact absurd ha (hcmd v)
  · obtain ⟨hattempt, _⟩ := writeTarget_keeps s v (target off)
    exact (State.sameAttempt_iff.mp hattempt).1

/-- A PUSH leaves LISTEN only with a queued entry whose last bit is set. -/
theorem PushEffect.fsm_of_listen {s t : State} (h : PushEffect s t) (hl : s.fsm = .listen) :
    (t.fsm = .done ∧ ∃ e, t.q = s.q ++ [e] ∧ e.last = true) ∨
      (t.fsm = .listen ∧ (t.q = s.q ∨ ∃ e, t.q = s.q ++ [e] ∧ e.last = false)) := by
  cases h with
  | ignored hne => exact absurd hl hne
  | foreign => exact .inr ⟨hl, .inl rfl⟩
  | overflow => exact .inr ⟨hl, .inl rfl⟩
  | queued =>
    have hlast := stagedEntry_last s
    by_cases hmarker : StagedLast s
    · exact .inl ⟨(pushQueued_last hmarker).1, _, pushQueued_q s, hlast.mpr hmarker⟩
    · exact .inr ⟨(pushQueued_notLast hmarker).1.trans hl, .inr ⟨_, pushQueued_q s,
        Bool.eq_false_iff.mpr (mt hlast.mp hmarker)⟩⟩

theorem PushEffect.fsm_of_not_listen {s t : State} (h : PushEffect s t) (hl : s.fsm ≠ .listen) :
    t.fsm = s.fsm := by
  cases h with
  | ignored => rfl
  | foreign hlisten | overflow hlisten | queued hlisten => exact absurd hlisten hl

/-- Settles O35: ARM, DISARM and PUSH by their own effects, everything else as keeping FSM. -/
theorem fsmTransitions : Obligations.FsmTransitions := by
  refine ⟨fun s => ⟨_, rfl, by simp [resetBlock_eq]⟩, fun s v c => runCommand_fsm_of_raises,
    fun s t a => perform_fsm, fun i s => ?_⟩
  cases i with
  | arm => exact ⟨_, rfl, by simp⟩
  | disarm => exact ⟨_, rfl, by simp⟩
  | push =>
    obtain ⟨t, ht, he⟩ := exec_push s
    refine ⟨t, ht, by simp, by simp, fun _ => he.fsm_of_listen, fun _ => he.fsm_of_not_listen, by simp⟩
  | nop | hdr | fin | crc8 | crc16 | pop | flush =>
    obtain ⟨t, ht, he⟩ := exec_effect _ s
    exact ⟨t, ht, by simp, by simp, by simp, by simp, he.fsm⟩

/-! ## Entries show the inverter's address (R122) -/

/-- Settles O37: a new entry is the staged frame of a PUSH that passed the address check. -/
theorem foreignFrameIsNeverQueued : Obligations.ForeignFrameIsNeverQueued := by
  refine ⟨fun s t a h e he => (perform_entry_cases h he).imp_right ?_,
    fun s v => ⟨_, perform_write_reg (r := .invAddr) (by decide) s v, rfl⟩⟩
  rintro ⟨ha, hl, ⟨hlen, h1, h2, h3, h4⟩, rfl⟩
  refine ⟨ha, hl, by rwa [stagedEntry_n], ?_⟩
  rw [stagedEntry_byte (by omega), stagedEntry_byte (by omega), stagedEntry_byte (by omega),
    stagedEntry_byte (by omega)]
  exact ⟨h1, h2, h3, h4⟩

/-! ## A response of N frames (R121) -/

theorem pushFrames_cons {f : ArrivingFrame} {s t : State} (h : exec .push (stageFrame s f) = .next t)
    (fs : List ArrivingFrame) : pushFrames (f :: fs) s = pushFrames fs t := by
  simp [pushFrames, h]

theorem pushFrames_append {fs : List ArrivingFrame} {s t : State} (h : pushFrames fs s = .next t)
    (gs : List ArrivingFrame) : pushFrames (fs ++ gs) s = pushFrames gs t := by
  induction fs generalizing s with
  | nil => cases h; rfl
  | cons f fs ih =>
    obtain ⟨u, hu, _⟩ := exec_push (stageFrame s f)
    rw [pushFrames_cons hu] at h
    rw [List.cons_append, pushFrames_cons hu, ih h]

/-- R115's marker of a frame as it arrives: only one of 10 bytes or more carries a frame index. -/
def ArrivingFrame.Marked (f : ArrivingFrame) : Prop := 10 ≤ f.len.toNat ∧ 0x80 < (readByte f.bytes 9).toNat

theorem stagedLast_stageFrame (s : State) (f : ArrivingFrame) :
    StagedLast (stageFrame s f) ↔ f.Marked := by
  have h : 10 ≤ Config.maxLen := by decide
  simp [StagedLast, ArrivingFrame.Marked, stagedLen, stageFrame, h]

/-- The address check of an arriving frame depends on INV_ADDR only. -/
theorem stagedAddressPasses_stageFrame {s t : State} (h : t.invAddr = s.invAddr) (f : ArrivingFrame) :
    StagedAddressPasses (stageFrame t f) ↔ StagedAddressPasses (stageFrame s f) := by
  simp [stagedAddressPasses_iff, stagedLen, stageFrame, h]

/-- `t` is an attempt `k` queued frames after `s` began one, none of them the last. -/
structure AttemptAfter (s t : State) (k : Nat) : Prop where
  addr : t.invAddr = s.invAddr
  cfg : t.cfg = s.cfg
  length : t.q.length = s.q.length + k
  listening : t.fsm = .listen
  unseen : t.lastSeen = false
  framesRx : t.framesRx.toNat = k

section
variable {s t : State} {k : Nat} {f : ArrivingFrame}

/-- With room left, a frame that passes the address check is queued. -/
theorem AttemptAfter.exec_push (h : AttemptAfter s t k) (hroom : s.q.length + k < s.cfg.queueDepth)
    (hp : StagedAddressPasses (stageFrame s f)) :
    exec .push (stageFrame t f) = .next (pushQueued (stageFrame t f)) := by
  refine exec_push_queued h.listening ((stagedAddressPasses_stageFrame h.addr f).mpr hp) ?_
  have hlength : (stageFrame t f).q.length = s.q.length + k := h.length
  have hcfg : (stageFrame t f).cfg = s.cfg := h.cfg
  rw [hlength, hcfg]
  exact hroom.ne

theorem AttemptAfter.length_pushQueued (h : AttemptAfter s t k) :
    (pushQueued (stageFrame t f)).q.length = s.q.length + (k + 1) := by
  rw [pushQueued_q, List.length_append, List.length_singleton, ← Nat.add_assoc, ← h.length]
  rfl

theorem AttemptAfter.framesRx_pushQueued (h : AttemptAfter s t k) (hk : k < 255) :
    (pushQueued (stageFrame t f)).framesRx.toNat = k + 1 := by
  rw [pushQueued_framesRx, satInc_toNat, stageFrame, State.setStaging_framesRx, h.framesRx]
  omega

/-- A queued frame without the marker is one more of the attempt. -/
theorem AttemptAfter.succ (h : AttemptAfter s t k) (hk : k < 255) (hmarked : ¬f.Marked) :
    AttemptAfter s (pushQueued (stageFrame t f)) (k + 1) := by
  rw [← stagedLast_stageFrame t] at hmarked
  obtain ⟨hfsm, hseen, _⟩ := pushQueued_notLast hmarked
  obtain ⟨haddr, _⟩ := State.sameAddrs_iff.mp (pushQueued_keeps (stageFrame t f)).addrs
  exact {
    addr := haddr.trans h.addr
    cfg := (pushQueued_cfg _).trans h.cfg
    length := h.length_pushQueued
    listening := hfsm.trans h.listening
    unseen := hseen.trans h.unseen
    framesRx := h.framesRx_pushQueued hk }

/-- A frame whose index is ALL_FRAMES and the number of frames so far, itself included, completes the attempt. -/
theorem AttemptAfter.complete (h : AttemptAfter s t k) (hk : k < 127)
    (hroom : s.q.length + k < s.cfg.queueDepth) (hp : StagedAddressPasses (stageFrame s f))
    (hindex : (readByte f.bytes 9).toNat = 0x80 + (k + 1)) (hlen : 10 ≤ f.len.toNat) :
    ∃ u, exec .push (stageFrame t f) = .next u ∧ u.lastSeen = true ∧ u.expCnt.toNat = k + 1 ∧
      u.framesRx.toNat = k + 1 ∧ u.fsm = .done ∧ u.q.length = s.q.length + (k + 1) := by
  have hmarked : StagedLast (stageFrame t f) :=
    (stagedLast_stageFrame t f).mpr ⟨hlen, by omega⟩
  have hbyte : (readByte (stageFrame t f).rxBuf 9).toNat = 0x80 + (k + 1) := hindex
  obtain ⟨hfsm, hseen, hexp, _⟩ := pushQueued_last hmarked
  refine ⟨_, h.exec_push hroom hp, hseen, ?_, h.framesRx_pushQueued (by omega), hfsm, h.length_pushQueued⟩
  rw [hexp, expectedCount_stagedFrame hmarked, hbyte, Nat.add_sub_cancel_left]

end

/-- ARM begins an attempt. -/
theorem attemptAfter_armed (s : State) : AttemptAfter (armed s) (armed s) 0 := ⟨rfl, rfl, rfl, rfl, rfl, rfl⟩

/-- Frames without the marker that all pass and find room leave the attempt open and counted. -/
theorem AttemptAfter.pushFrames {s t : State} {k : Nat} {fs : List ArrivingFrame} (h : AttemptAfter s t k)
    (hroom : s.q.length + (k + fs.length) ≤ s.cfg.queueDepth) (hcount : k + fs.length ≤ 255)
    (hp : ∀ f ∈ fs, StagedAddressPasses (stageFrame s f)) (hmarked : ∀ f ∈ fs, ¬f.Marked) :
    ∃ u, pushFrames fs t = .next u ∧ AttemptAfter s u (k + fs.length) := by
  induction fs generalizing t k with
  | nil => exact ⟨t, rfl, h⟩
  | cons f fs ih =>
    have hlength : k + (f :: fs).length = k + 1 + fs.length := by rw [List.length_cons]; omega
    rw [hlength] at hroom hcount ⊢
    rw [List.forall_mem_cons] at hp hmarked
    obtain ⟨hpf, hpfs⟩ := hp
    obtain ⟨hmf, hmfs⟩ := hmarked
    have hpush := h.exec_push (by omega) hpf
    rw [pushFrames_cons hpush]
    exact ih (h.succ (by omega) hmf) hroom hcount hpfs hmfs

/-- Settles O42: the frames before the last leave the attempt open after each PUSH; the marker then ends it. -/
theorem completionAfterExactlyNPushes : Obligations.CompletionAfterExactlyNPushes := by
  rintro s frames lastFrame N rfl hmax hroom hp hindex hlast hlen
  rw [List.forall_mem_append, List.forall_mem_singleton] at hp
  obtain ⟨hpframes, hplast⟩ := hp
  have hroomArmed : (armed s).q.length + (frames.length + 1) ≤ (armed s).cfg.queueDepth := hroom
  have hopen : ∀ fs : List ArrivingFrame, fs ⊆ frames → fs.length ≤ frames.length →
      ∃ t, pushFrames fs (armed s) = .next t ∧ AttemptAfter (armed s) t (0 + fs.length) :=
    fun fs hsub hfs => (attemptAfter_armed s).pushFrames (by omega) (by omega)
      (fun f hf => hpframes f (hsub hf))
      fun f hf hmarked => absurd (hindex f (hsub hf) hmarked.1) (Nat.not_le.mpr hmarked.2)
  refine ⟨armed s, exec_arm s, fun k hk => ?_, ?_⟩
  · have htake : (frames.take k).length = k := List.length_take_of_le (by omega)
    obtain ⟨t, ht, hafter⟩ := hopen (frames.take k) (List.take_subset k frames) (by omega)
    rw [htake, Nat.zero_add] at hafter
    exact ⟨t, ht, hafter.unseen, hafter.listening, hafter.framesRx⟩
  · obtain ⟨t, ht, hafter⟩ := hopen frames (List.Subset.refl frames) (Nat.le_refl _)
    rw [Nat.zero_add] at hafter
    obtain ⟨u, hu, hcomplete⟩ := hafter.complete (by omega) (by omega) hplast hlast hlen
    refine ⟨u, ?_, hcomplete⟩
    rw [pushFrames_append ht, pushFrames_cons hu]
    rfl

end Sys2Proof.Machine
end

section
/-! PROOFS. The statement about NOP (43_control.md R125). -/

namespace Sys2Proof.Machine

/-- NOP answers its own state. -/
@[simp] theorem exec_nop (s : State) : exec .nop s = .next s := rfl

/-- NOP is encoded as the word 0 (R76). -/
theorem decode_zero : decode 0x00000000 = .ok .nop := by decide

/-- Settles O13: the word 0 decodes to NOP, and the decoder's third test refuses every other word with OP 0. -/
theorem nopDoesNothing : Obligations.NopDoesNothing :=
  fun s => ⟨exec_nop s, (runCommand_ok s decode_zero).trans (exec_nop s),
    fun _ hop h => runCommand_reserved (op := .nop) hop s (.inl h)⟩

end Sys2Proof.Machine
end

section
/-! PROOFS. The statements about command errors (60_exceptions.md R126 to R130): the record, what an instruction does
with and without an error of its own, and what clears the record. -/

namespace Sys2Proof.Machine

/-! ## The record (R127) -/

section
variable {s : State}

theorem State.raise_of_err (h : s.err = true) (c : CmdError) (v : Word) : s.raise c v = s := if_pos h

theorem State.raise_first_errCmd (h : s.err = false) (c : CmdError) (v : Word) : (s.raise c v).errCmd = v := by
  simp [State.raise_errCmd, h]

theorem State.raise_sameError (h : s.err = true) (c : CmdError) (v : Word) : s.sameError (s.raise c v) := by
  rw [State.raise_of_err h]
  exact ⟨rfl, rfl, rfl⟩

end

/-- Settles O9: ERR = 0 takes the record, with each code of R126's column; ERR = 1 keeps it. -/
theorem firstErrorIsRecorded : Obligations.FirstErrorIsRecorded := by
  refine fun s c v => ⟨fun h => ⟨s.raise_err c v, State.raise_first_errCmd h c v, ?_⟩,
    fun h => State.raise_sameError h c v, s.raise_sameButError c v⟩
  rw [State.raise_first_errCode h]
  cases c <;> rfl

/-! ## An instruction's own error (R128, R130) -/

theorem ownError_fin_overflow {s : State} {f : Bool} {len : Nat} (h : 32 < finLength f len) :
    ownError s (.fin f len) = some .finOverflow := by
  rw [ownError, ← finLength_eq]
  exact if_pos h

section
variable {s : State} {buf : BufSel} {a b : Nat}

/-- CRC8's own error is its source's. -/
theorem ownError_crc8_error {c : CmdError} (h : source s buf a b = .error c) :
    ownError s (.crc8 buf a b) = some c := by
  rw [source_spec] at h
  rw [ownError]
  split at h
  · next hq => cases h; rw [if_pos hq]
  · next hq =>
    split at h
    · next hrange => cases h; rw [if_neg hq, if_pos hrange]
    · cases h

theorem ownError_crc8_ok {d : List Byte} (h : source s buf a b = .ok d) :
    ownError s (.crc8 buf a b) = none := by
  rw [source_spec] at h
  rw [ownError]
  split at h
  · cases h
  · next hq =>
    split at h
    · cases h
    · next hrange => rw [if_neg hq, if_neg hrange]

/-- CRC16 checks as CRC8 does. -/
theorem ownError_crc16 : ownError s (.crc16 buf a b) = ownError s (.crc8 buf a b) := rfl

end

/-- All an instruction can do about errors: raise its own, with nothing else changed, or complete with the record
as it was. -/
inductive ExecOutcome (i : Instr) (s : State) : Prop
  | raises {c : CmdError} (hown : ownError s i = some c) (hexec : exec i s = .next (s.raise c (encode i)))
  | completes {t : State} (hown : ownError s i = none) (hexec : exec i s = .next t) (hsame : s.sameError t)

theorem exec_outcome (i : Instr) (s : State) : ExecOutcome i s := by
  cases i with
  | nop => exact .completes rfl (exec_nop s) (by simp)
  | hdr mid idx => exact .completes rfl (exec_hdr s mid idx) (by simp)
  | fin f len =>
    by_cases hfits : finLength f len ≤ 32
    · obtain ⟨t, ht, _, _, _, _, _, hsame⟩ := exec_fin_effect s hfits
      exact .completes (ownError_fin_none.mpr hfits) ht hsame
    · have hover : 32 < finLength f len := Nat.not_le.mp hfits
      exact .raises (ownError_fin_overflow hover) (exec_fin_overflow s hover)
  | crc8 buf a b =>
    cases hsource : source s buf a b with
    | error c => exact .raises (ownError_crc8_error hsource) (exec_crc8_error hsource)
    | ok d => exact .completes (ownError_crc8_ok hsource) (exec_crc8_ok hsource) (by simp)
  | crc16 buf a b =>
    cases hsource : source s buf a b with
    | error c =>
      exact .raises (ownError_crc16.trans (ownError_crc8_error hsource)) (exec_crc16_error hsource)
    | ok d =>
      exact .completes (ownError_crc16.trans (ownError_crc8_ok hsource)) (exec_crc16_ok hsource) (by simp)
  | arm => exact .completes rfl (exec_arm s) (by simp [armed])
  | disarm => exact .completes rfl rfl (by simp)
  | push =>
    obtain ⟨t, ht, he⟩ := exec_push s
    exact .completes rfl ht he.keeps.error
  | pop =>
    cases hq : s.q with
    | nil => exact .raises (by simp [ownError, hq]) (exec_pop_nil hq)
    | cons e rest => exact .completes (by simp [ownError, hq]) (exec_pop_cons hq) (by simp)
  | flush => exact .completes rfl rfl (by simp)

theorem exec_of_ownError {i : Instr} {s : State} {c : CmdError} (h : ownError s i = some c) :
    exec i s = .next (s.raise c (encode i)) := by
  cases exec_outcome i s with
  | raises hown hexec => rw [hown] at h; cases h; exact hexec
  | completes hown => rw [hown] at h; cases h

theorem exec_of_no_ownError {i : Instr} {s : State} (h : ownError s i = none) :
    ∃ t, exec i s = .next t ∧ s.sameError t := by
  cases exec_outcome i s with
  | raises hown => rw [hown] at h; cases h
  | completes _ hexec hsame => exact ⟨_, hexec, hsame⟩

/-! ## A word's error -/

/-- The word recorded is the one written, because a word that decodes is its instruction's (R82, R85). -/
theorem runCommand_of_raises {s : State} {v : Word} {c : CmdError} (h : Raises s v c) :
    runCommand v s = .next (s.raise c v) := by
  rcases h with hd | ⟨i, hd, hown⟩
  · exact runCommand_error s hd
  · rw [runCommand_ok s hd, exec_of_ownError hown, encode_of_decode hd]

theorem runCommand_of_not_raises {s : State} {v : Word} (h : ∀ c, ¬Raises s v c) :
    ∃ t, runCommand v s = .next t ∧ s.sameError t := by
  cases hd : decode v with
  | error c => exact absurd (.inl hd) (h c)
  | ok i =>
    rw [runCommand_ok s hd]
    cases hown : ownError s i with
    | none => exact exec_of_no_ownError hown
    | some c => exact absurd (.inr ⟨i, hd, hown⟩) (h c)

/-- Settles O10: an instruction with and without an error of its own, then a word by either way of raising. -/
theorem instructionErrorsArePrecise : Obligations.InstructionErrorsArePrecise :=
  fun i s => ⟨fun _ => exec_of_ownError, exec_of_no_ownError,
    fun v => ⟨fun _ => runCommand_error s, fun hd _ hown => runCommand_of_raises (.inr ⟨i, hd, hown⟩),
      fun c => s.raise_sameButError c v⟩⟩

/-- Settles O11: a word that raises leaves what `raise` does, any other the record. -/
theorem erroneousCommandChangesOnlyRecord : Obligations.ErroneousCommandChangesOnlyRecord := by
  intro s v
  obtain ⟨t, ht⟩ := runCommand_completes v s
  refine ⟨t, ht, fun c hc => ?_, fun hnone => ?_⟩
  · rw [runCommand_of_raises hc] at ht
    cases ht
    exact ⟨s.raise_sameButError c v, fun h => State.raise_sameError h c v,
      fun h => ⟨s.raise_err c v, State.raise_first_errCode h c v, State.raise_first_errCmd h c v⟩⟩
  · obtain ⟨u, hu, hsame⟩ := runCommand_of_not_raises hnone
    rw [hu] at ht
    cases ht
    exact hsame

/-! ## What clears the record (R129) -/

theorem clearStatus_clears_error (s : State) {v : Word} (h : bits v 0 0 = 1) :
    (s.clearStatus v).err = false ∧ (s.clearStatus v).errCode = 0 ∧ (s.clearStatus v).errCmd = 0 := by
  simp [State.clearStatus_err, State.clearStatus_errCode, State.clearStatus_errCmd, h]

theorem clearStatus_sameError (s : State) {v : Word} (h : bits v 0 0 ≠ 1) : s.sameError (s.clearStatus v) := by
  simp [State.clearStatus_err, State.clearStatus_errCode, State.clearStatus_errCmd, h]

theorem resetBlock_clears_error (s : State) :
    (resetBlock s).err = false ∧ (resetBlock s).errCode = 0 ∧ (resetBlock s).errCmd = 0 := by
  simp [resetBlock_eq]

/-- Of the stores only one to STATUS reaches the record. -/
theorem writeTarget_keeps_error (s : State) (v : Word) {T : Target} (h : T ≠ .reg .status) :
    s.sameError (writeTarget s v T) := by
  cases T with
  | reg r => revert h; cases r <;> simp [writeTarget, writeReg]
  | byte b i => cases b <;> simp [writeTarget]
  | unmapped => simp [writeTarget]

/-- With ERR = 1 no command reaches the record: the only thing one could do to it is to raise. -/
theorem runCommand_keeps_error {v : Word} {s t : State} (h : runCommand v s = .next t) (herr : s.err = true) :
    s.sameError t := by
  rcases (runCommand_lengthAndRecord h).record with hsame | ⟨c, w, rfl⟩
  · exact hsame
  · exact State.raise_sameError herr c w

theorem perform_error_cases {s t : State} {a : HostAction} (h : perform a s = .next t) (herr : s.err = true) :
    s.sameError t ∨
    ((a = .reset ∨ ∃ v, a = .write allLanes 0x004 v ∧ bits v 0 0 = 1) ∧
      t.err = false ∧ t.errCode = 0 ∧ t.errCmd = 0) := by
  rcases perform_next_cases h with ⟨rfl, rfl⟩ | ⟨_, _, _, rfl⟩ | ⟨v, _, hc⟩ | ⟨off, v, ha, _, _, rfl⟩
  · exact .inr ⟨.inl rfl, resetBlock_clears_error s⟩
  · exact .inl (by simp)
  · exact .inl (runCommand_keeps_error hc herr)
  · by_cases hT : target off = .reg .status
    · rw [hT]
      rw [offset_of_target hT] at ha
      by_cases h0 : bits v 0 0 = 1
      · exact .inr ⟨.inr ⟨v, ha, h0⟩, clearStatus_clears_error s h0⟩
      · exact .inl (clearStatus_sameError s h0)
    · exact .inl (writeTarget_keeps_error s v hT)

/-! ## Commands do not read the record (R129) -/

/-- Both outcomes complete, in states that differ in the error record only. -/
def AlikeButRecord (o p : Host.Outcome State Fault Refusal) : Prop :=
  ∃ t e code cmd, o = .next t ∧ p = .next (t.setError e code cmd)

section
variable (s : State) (e : Bool) (code : BitVec 4) (cmd : Word)

theorem setError_sameButError : s.sameButError (s.setError e code cmd) := by simp [State.sameButError]

theorem raise_alikeButRecord (c : CmdError) (v : Word) :
    AlikeButRecord (.next (s.raise c v)) (.next ((s.setError e code cmd).raise c v)) := by
  have hraise : (s.setError e code cmd).raise c v =
      (s.raise c v).setError true (if e then code else c.code) (if e then cmd else v) := by
    unfold State.raise
    cases e <;> cases s.err <;> rfl
  exact ⟨s.raise c v, _, _, _, rfl, congrArg _ hraise⟩

theorem source_setError (buf : BufSel) (a b : Nat) :
    source (s.setError e code cmd) buf a b = source s buf a b := by cases buf <;> rfl

theorem pushQueued_setError : pushQueued (s.setError e code cmd) = (pushQueued s).setError e code cmd := by
  have hframe : stagedFrame (s.setError e code cmd) = stagedFrame s := rfl
  unfold pushQueued
  simp only [hframe]
  split <;> rfl

/-- Every instruction makes its checks and takes its operands from outside the record. -/
theorem exec_alikeButRecord (i : Instr) : AlikeButRecord (exec i s) (exec i (s.setError e code cmd)) := by
  cases i with
  | nop => exact ⟨s, e, code, cmd, rfl, rfl⟩
  | hdr mid idx => exact ⟨_, e, code, cmd, exec_hdr s mid idx, rfl⟩
  | fin f len =>
    by_cases hfits : finLength f len ≤ 32
    · rw [exec_fin_fits s hfits, exec_fin_fits _ hfits]
      exact ⟨_, e, code, cmd, rfl, rfl⟩
    · have hover : 32 < finLength f len := Nat.not_le.mp hfits
      rw [exec_fin_overflow s hover, exec_fin_overflow _ hover]
      exact raise_alikeButRecord s e code cmd _ _
  | crc8 buf a b =>
    have hsame := source_setError s e code cmd buf a b
    cases hsource : source s buf a b with
    | error c =>
      rw [exec_crc8_error hsource, exec_crc8_error (hsame.trans hsource)]
      exact raise_alikeButRecord s e code cmd _ _
    | ok d =>
      rw [exec_crc8_ok hsource, exec_crc8_ok (hsame.trans hsource)]
      exact ⟨_, e, code, cmd, rfl, rfl⟩
  | crc16 buf a b =>
    have hsame := source_setError s e code cmd buf a b
    cases hsource : source s buf a b with
    | error c =>
      rw [exec_crc16_error hsource, exec_crc16_error (hsame.trans hsource)]
      exact raise_alikeButRecord s e code cmd _ _
    | ok d =>
      rw [exec_crc16_ok hsource, exec_crc16_ok (hsame.trans hsource)]
      exact ⟨_, e, code, cmd, rfl, rfl⟩
  | arm => exact ⟨_, e, code, cmd, exec_arm s, rfl⟩
  | disarm => exact ⟨_, e, code, cmd, rfl, rfl⟩
  | push =>
    obtain ⟨t, ht, he⟩ := exec_push s
    refine ⟨t, e, code, cmd, ht, ?_⟩
    cases he with
    | ignored hl => exact exec_push_ignored hl
    | foreign hl hp => exact exec_push_foreign hl hp
    | overflow hl hp hq => exact exec_push_overflow hl hp hq
    | queued hl hp hq =>
      rw [← pushQueued_setError]
      exact exec_push_queued hl hp hq
  | pop =>
    cases hq : s.q with
    | nil =>
      rw [exec_pop_nil hq, exec_pop_nil (s := s.setError e code cmd) hq]
      exact raise_alikeButRecord s e code cmd _ _
    | cons x rest => exact ⟨_, e, code, cmd, exec_pop_cons hq, exec_pop_cons (s := s.setError e code cmd) hq⟩
  | flush => exact ⟨_, e, code, cmd, rfl, rfl⟩

theorem runCommand_alikeButRecord (v : Word) :
    AlikeButRecord (runCommand v s) (runCommand v (s.setError e code cmd)) := by
  cases hd : decode v with
  | error c =>
    rw [runCommand_error s hd, runCommand_error _ hd]
    exact raise_alikeButRecord s e code cmd c v
  | ok i =>
    rw [runCommand_ok s hd, runCommand_ok _ hd]
    exact exec_alikeButRecord s e code cmd i

end

/-- Settles O12: what a host action can do to a record with ERR = 1, the two that clear it, and commands as blind to
it. -/
theorem errorStaysAndBlocksNothing : Obligations.ErrorStaysAndBlocksNothing := by
  refine ⟨fun s t a => perform_error_cases,
    fun s v h => ⟨_, perform_write_reg (r := .status) (by decide) s v, clearStatus_clears_error s h⟩,
    fun s => ⟨_, rfl, resetBlock_clears_error s⟩, fun s v e code cmd => ?_⟩
  obtain ⟨t, e', code', cmd', ht, hu⟩ := runCommand_alikeButRecord s e code cmd v
  exact ⟨t, _, ht, hu, setError_sameButError t e' code' cmd'⟩

end Sys2Proof.Machine
end

section
/-! PROOFS. The statement about reaching the reset values without a reset (70_reset_and_hazards.md R140): what each
group of its actions does, and that together they leave what a reset does but for the buffers' bytes. -/

namespace Sys2Proof.Machine

/-! ## Several host actions -/

theorem performAll_append {as bs : List HostAction} {s t : State} (h : performAll as s = .next t) :
    performAll (as ++ bs) s = performAll bs t := by
  induction as generalizing s with
  | nil => cases h; rfl
  | cons a as ih =>
    cases hp : perform a s with
    | next u => simp only [performAll, List.cons_append, hp] at h ⊢; exact ih h
    | fault r => simp [performAll, hp] at h
    | refused r => simp [performAll, hp] at h

/-- A host writes an instruction's word to CMD, and the instruction runs. -/
theorem performAll_command {i : Instr} {s t : State} (as : List HostAction) (h : exec i s = .next t)
    (hi : decode (encode i) = .ok i := by decide) :
    performAll (.write allLanes 0x000 (encode i) :: as) s = performAll as t := by
  rw [performAll, perform_write_cmd, runCommand_ok s hi, h]

theorem performAll_write_reg {r : Reg} (hr : r ≠ .cmd) (s : State) (v : Word) (as : List HostAction) :
    performAll (.write allLanes r.offset v :: as) s = performAll as (writeReg s v r) := by
  rw [performAll, perform_write_reg hr]

/-! ## The groups of R140's actions -/

/-- FLUSH, ARM, DISARM: Q empty, FSM = IDLE, and nothing left of an attempt. -/
theorem performAll_flush_arm_disarm (s : State) :
    performAll [.write allLanes 0x000 (encode .flush), .write allLanes 0x000 (encode .arm),
        .write allLanes 0x000 (encode .disarm)] s =
      .next (((s.setQ []).setAttempt .idle false 0 0).setDrops 0 0 0) := by
  rw [performAll_command (i := .flush) _ rfl, performAll_command _ (exec_arm _),
    performAll_command (i := .disarm) _ rfl]
  rfl

/-- A STATUS write with all three of its W1C bits set (10_state.md R26). -/
theorem clearStatus_all (s : State) {v : Word} (h0 : bits v 0 0 = 1) (h1 : bits v 1 1 = 1)
    (h2 : bits v 2 2 = 1) : s.clearStatus v = (s.setError false 0 0).setSticky false false := by
  simp [State.clearStatus, h0, h1, h2]

/-- The register writes: STATUS cleared, CRC16_ACC from `acc`, addresses and the staged frame's registers 0. -/
theorem performAll_register_writes (s : State) (acc : Word) :
    performAll [.write allLanes 0x004 0x7, .write allLanes 0x018 acc, .write allLanes 0x010 0,
        .write allLanes 0x014 0, .write allLanes 0x020 0, .write allLanes 0x024 0] s =
      .next (((((s.setError false 0 0).setSticky false false).setCrc16Acc (acc.setWidth 16)).setAddrs 0
        0).setStaging s.rxBuf 0 0) := by
  rw [← clearStatus_all s (v := 0x7) (by decide) (by decide) (by decide)]
  calc
    _ = performAll _ (s.clearStatus 0x7) := performAll_write_reg (r := .status) (by decide) ..
    _ = performAll _ _ := performAll_write_reg (r := .crc16Acc) (by decide) ..
    _ = performAll _ _ := performAll_write_reg (r := .invAddr) (by decide) ..
    _ = performAll _ _ := performAll_write_reg (r := .stnAddr) (by decide) ..
    _ = performAll _ _ := performAll_write_reg (r := .rxLen) (by decide) ..
    _ = performAll [] _ := performAll_write_reg (r := .rxMeta) (by decide) ..
    _ = _ := rfl

/-- CRC8 over no bytes gives CRC8_INIT (40_crc.md R93). -/
theorem exec_crc8_empty (s : State) :
    exec (.crc8 .tx 0 0) s = .next (s.setResult (s.cfg.crc8Init.setWidth 32)) :=
  exec_crc8_ok (source_tx (by omega))

/-- HDR and CRC8 TX, 0, 0: TX_LEN and RESULT 0. -/
theorem performAll_hdr_crc8 {s : State} (h8 : s.cfg.crc8Init = 0) :
    performAll [.write allLanes 0x000 (encode (.hdr 0 0)), .write allLanes 0x000 (encode (.crc8 .tx 0 0))] s =
      .next ((s.setTx (hdrBuffer s 0 0) 0).setResult 0) := by
  rw [performAll_command _ (exec_hdr s 0 0), performAll_command _ (exec_crc8_empty _), State.setTx_cfg, h8]
  rfl

/-! ## The statement -/

/-- Settles O56: the three groups one after another, then their updates and a reset compared field by field. -/
theorem hostReachesResetValues : Obligations.HostReachesResetValues := by
  intro s h16 h8
  refine ⟨_, (performAll_append (performAll_flush_arm_disarm s)).trans
    ((performAll_append (performAll_register_writes _ 0xFFFF)).trans (performAll_hdr_crc8 h8)),
    resetBlock s, rfl, ?_, rfl⟩
  simp only [resetBlock_eq, State.afterReset, State.setQ, State.setAttempt, State.setDrops, State.setError,
    State.setSticky, State.setCrc16Acc, State.setAddrs, State.setStaging, State.setTx, State.setResult, h16,
    BitVec.reduceSetWidth, BitVec.ofNat_eq_ofNat]

end Sys2Proof.Machine
end

section
/-! PROOFS. The statements about encoding and decoding together (30_encoding.md R75, R82 to R88): the fields of an
encoded word, and the operands of a decoded one. -/

namespace Sys2Proof

/-! ## From the instruction to its word and back -/

/-- The operand fields `enc` takes are read back, each at every value that fits it (R75). -/
theorem enc_fields {op sel f a b : Nat} (hop : op < 16) (hsel : sel < 4) (hf : f < 2) (ha : a < 256)
    (hb : b < 256) :
    bits (enc op sel f a b) 5 4 = sel ∧ bits (enc op sel f a b) 6 6 = f ∧
      bits (enc op sel f a b) 15 8 = a ∧ bits (enc op sel f a b) 23 16 = b := by
  rw [bits_sel, bits_f, bits_a, bits_b, enc_toNat hop hsel hf ha hb]
  omega

theorem Op.code_lt (op : Op) : op.code < 16 := by cases op <;> decide

/-- A word made of fields that fit passes the decoder's first two tests. -/
theorem decode_enc (op : Op) {sel f a b : Nat} (hsel : sel < 4) (hf : f < 2) (ha : a < 256) (hb : b < 256) :
    decode (enc op.code sel f a b) = decodeOperands (enc op.code sel f a b) op := by
  obtain ⟨hop, h7, ht⟩ := Laws.Encoding.of_fields op.code_lt hsel hf ha hb
  exact decode_operands hop h7 ht

section
variable {a b : Nat} (ha : a < 256)
include ha

theorem decode_encode_fin (f : Bool) : decode (encode (.fin f a)) = .ok (.fin f a) := by
  have hf := bool_toNat_lt f
  obtain ⟨h5, h6, h15, h23⟩ := enc_fields (op := 2) (sel := 0) (b := 0) (by omega) (by omega) hf ha (by omega)
  have hflag : (f.toNat == 1) = f := by cases f <;> rfl
  calc
    _ = decodeFin (enc 2 0 f.toNat a 0) := decode_enc .fin (by omega) hf ha (by omega)
    _ = .ok (.fin (f.toNat == 1) a) := by
      rw [decodeFin_fields (by simp [BadOperands, h5, h23]), h6, h15]
    _ = _ := by rw [hflag]

variable (hb : b < 256)
include hb

theorem decode_encode_hdr : decode (encode (.hdr a b)) = .ok (.hdr a b) := by
  obtain ⟨h5, h6, h15, h23⟩ := enc_fields (op := 1) (sel := 0) (f := 0) (by omega) (by omega) (by omega) ha hb
  calc
    _ = decodeHdr (enc 1 0 0 a b) := decode_enc .hdr (by omega) (by omega) ha hb
    _ = _ := by rw [decodeHdr_fields (by simp [BadOperands, h5, h6]), h15, h23]

/-- The CRC commands' words, for either OP. -/
theorem decodeCrc_enc {op : Nat} (hop : op < 16) (buf : BufSel) (mk : BufSel → Nat → Nat → Instr) :
    decodeCrc (enc op buf.code 0 a b) mk = .ok (mk buf a b) := by
  obtain ⟨h5, h6, h15, h23⟩ := enc_fields (f := 0) hop (Nat.lt_succ_of_lt buf.code_lt) (by omega) ha hb
  rw [decodeCrc_code mk h6 h5, h15, h23]

theorem decode_encode_crc8 (buf : BufSel) : decode (encode (.crc8 buf a b)) = .ok (.crc8 buf a b) :=
  (decode_enc .crc8 (Nat.lt_succ_of_lt buf.code_lt) (by omega) ha hb).trans
    (decodeCrc_enc ha hb Op.crc8.code_lt buf .crc8)

theorem decode_encode_crc16 (buf : BufSel) : decode (encode (.crc16 buf a b)) = .ok (.crc16 buf a b) :=
  (decode_enc .crc16 (Nat.lt_succ_of_lt buf.code_lt) (by omega) ha hb).trans
    (decodeCrc_enc ha hb Op.crc16.code_lt buf .crc16)

end

theorem fitsField_iff {n : Nat} : fitsField n = true ↔ n < 256 := decide_eq_true_iff

/-- Settles O5: operands that fit stay apart in the word; a command without operands has one word. -/
theorem decodeOfEncodeIsIdentity : Obligations.DecodeOfEncodeIsIdentity := by
  intro i hwf
  cases i with simp only [Instr.wellFormed, Bool.and_eq_true, fitsField_iff] at hwf
  | hdr mid idx => exact decode_encode_hdr hwf.1 hwf.2
  | fin f len => exact decode_encode_fin hwf f
  | crc8 buf start count => exact decode_encode_crc8 hwf.1 hwf.2 buf
  | crc16 buf start count => exact decode_encode_crc16 hwf.1 hwf.2 buf
  | nop | arm | disarm | push | pop | flush => decide

/-! ## From the word to its instruction and back -/

/-- A word that decodes has passed R83's first two tests, and its operands decode. -/
theorem decodeOperands_of_decode {v : Word} {i : Instr} (h : decode v = .ok i) :
    ∃ op : Op, bits v 3 0 = op.code ∧ decodeOperands v op = .ok i := by
  by_cases hlt : bits v 3 0 < 10
  · obtain ⟨op, hop⟩ := Op.exists_code hlt
    by_cases hr : bits v 7 7 ≠ 0 ∨ bits v 31 24 ≠ 0
    · rw [decode_reservedBits hop hr] at h
      cases h
    · rw [decode_operands hop (by omega) (by omega)] at h
      exact ⟨op, hop, h⟩
  · rw [decode_illegalOp (Nat.not_lt.mp hlt)] at h
    cases h

/-- A byte of a command word fits its field. -/
theorem fitsField_bits (v : Word) : fitsField (bits v 15 8) = true ∧ fitsField (bits v 23 16) = true :=
  ⟨fitsField_iff.mpr (bits_le v 15 8), fitsField_iff.mpr (bits_le v 23 16)⟩

theorem wellFormed_of_decode {v : Word} {i : Instr} (h : decode v = .ok i) : i.wellFormed = true := by
  obtain ⟨ha, hb⟩ := fitsField_bits v
  obtain ⟨op, _, hi⟩ := decodeOperands_of_decode h
  cases op with
  | hdr => obtain ⟨rfl, _⟩ := decodeHdr_ok hi; simp [Instr.wellFormed, ha, hb]
  | fin => obtain ⟨rfl, _⟩ := decodeFin_ok hi; exact ha
  | crc8 | crc16 => obtain ⟨buf, rfl, _⟩ := decodeCrc_ok hi; simp [Instr.wellFormed, ha, hb]
  | nop | arm | disarm | push | pop | flush => obtain ⟨rfl, _⟩ := decodeBare_ok hi; rfl

/-- Settles O6: a decoded operand is a byte of the word, and the fields make the word again. -/
theorem encodeOfDecodeIsIdentity : Obligations.EncodeOfDecodeIsIdentity :=
  fun _ _ h => ⟨wellFormed_of_decode h, encode_of_decode h⟩

end Sys2Proof
end

section
/-! PROOFS. The statements about what every command keeps (10_state.md R27, R29 to R34, R43, R46, R47): RESULT, the
registers that are the host's own, and LAST_SEEN. -/

namespace Sys2Proof.Machine

/-! ## RESULT (R27) -/

/-- Settles O38: an instruction that raises does only what `raise` does, and of the others those not named leave RESULT
by their updates. -/
theorem resultWrittenOnlyByNamedCommands : Obligations.ResultWrittenOnlyByNamedCommands := by
  intro i s
  cases hown : ownError s i with
  | some c => exact ⟨_, exec_of_ownError hown, fun _ => s.raise_result c _⟩
  | none =>
    cases i with
    | fin | crc8 | crc16 | push =>
      obtain ⟨t, ht⟩ := exec_completes _ s
      exact ⟨t, ht, by simp⟩
    | pop =>
      cases hq : s.q with
      | nil => simp [ownError, hq] at hown
      | cons e rest => exact ⟨_, exec_pop_cons hq, fun _ => rfl⟩
    | hdr mid idx => exact ⟨_, exec_hdr s mid idx, fun _ => s.setTx_result _ 0⟩
    | nop | arm | disarm | flush => exact ⟨_, rfl, fun _ => rfl⟩

/-! ## The host's registers (R29 to R31, R33, R34, R43) -/

/-- The staged frame's registers, the addresses and the model's own fields: what no command changes. -/
structure KeepsHostRegisters (s t : State) : Prop where
  staging : s.sameStaging t
  addrs : s.sameAddrs t
  own : s.sameOwn t

section
variable {s t : State}

theorem CommandEffect.keepsHostRegisters {i : Instr} (h : CommandEffect s i t) : KeepsHostRegisters s t := by
  cases h with
  | keeps h => exact ⟨h.staging, h.addrs, h.own⟩
  | push h => exact ⟨h.keeps.staging, h.keeps.addrs, h.keeps.own⟩
  | arm | disarm | pop | flush => constructor <;> simp

theorem runCommand_keepsHostRegisters {v : Word} (h : runCommand v s = .next t) : KeepsHostRegisters s t := by
  rcases runCommand_effect h with hk | ⟨i, _, he⟩
  · exact ⟨hk.staging, hk.addrs, hk.own⟩
  · exact he.keepsHostRegisters

end

/-- Of the instructions only CRC16 reaches CRC16_ACC (R97). -/
theorem exec_sameAcc {i : Instr} (hi : Laws.Encoding.opcode i ≠ 4) (s : State) :
    ∃ t, exec i s = .next t ∧ s.sameAcc t := by
  cases i with
  | fin f len =>
    by_cases hfits : finLength f len ≤ 32
    · obtain ⟨t, ht, _, _, _, _, hacc, _⟩ := exec_fin_effect s hfits
      exact ⟨t, ht, hacc⟩
    · exact ⟨_, exec_fin_overflow s (Nat.not_le.mp hfits), s.raise_crc16Acc _ _⟩
  | crc8 buf a b =>
    cases hsource : source s buf a b with
    | error c => exact ⟨_, exec_crc8_error hsource, s.raise_crc16Acc c _⟩
    | ok d => exact ⟨_, exec_crc8_ok hsource, rfl⟩
  | crc16 => exact absurd rfl hi
  | push =>
    obtain ⟨t, ht, he⟩ := exec_push s
    exact ⟨t, ht, he.keeps.acc⟩
  | pop =>
    cases hq : s.q with
    | nil => exact ⟨_, exec_pop_nil hq, s.raise_crc16Acc _ _⟩
    | cons e rest => exact ⟨_, exec_pop_cons hq, rfl⟩
  | hdr mid idx => exact ⟨_, exec_hdr s mid idx, s.setTx_crc16Acc _ 0⟩
  | nop | arm | disarm | flush => exact ⟨_, rfl, rfl⟩

/-- OP of a word that decodes is its instruction's (R76). -/
theorem opcode_of_decode {v : Word} {i : Instr} (h : decode v = .ok i) :
    Laws.Encoding.opcode i = bits v 3 0 := by
  obtain ⟨op, hop, hi⟩ := decodeOperands_of_decode h
  rw [hop]
  cases op with
  | hdr => obtain ⟨rfl, _⟩ := decodeHdr_ok hi; rfl
  | fin => obtain ⟨rfl, _⟩ := decodeFin_ok hi; rfl
  | crc8 | crc16 => obtain ⟨_, rfl, _⟩ := decodeCrc_ok hi; rfl
  | nop | arm | disarm | push | pop | flush => obtain ⟨rfl, _⟩ := decodeBare_ok hi; rfl

theorem runCommand_sameAcc {v : Word} (hop : bits v 3 0 ≠ 4) (s : State) :
    ∃ t, runCommand v s = .next t ∧ s.sameAcc t := by
  cases hd : decode v with
  | error c => exact ⟨_, runCommand_error s hd, s.raise_crc16Acc c v⟩
  | ok i =>
    rw [runCommand_ok s hd]
    exact exec_sameAcc (opcode_of_decode hd ▸ hop) s

/-- Settles O39: no command's effect reaches the host's registers, and only CRC16's reaches CRC16_ACC. -/
theorem commandsKeepHostRegisters : Obligations.CommandsKeepHostRegisters := by
  intro s v
  obtain ⟨t, ht⟩ := runCommand_completes v s
  obtain ⟨hstaging, haddrs, hown⟩ := runCommand_keepsHostRegisters ht
  refine ⟨t, ht, hstaging, haddrs, fun hop => ?_, hown⟩
  obtain ⟨u, hu, hacc⟩ := runCommand_sameAcc hop s
  rw [hu] at ht
  cases ht
  exact hacc

/-! ## LAST_SEEN (R46, R47) -/

/-- A PUSH that could set LAST_SEEN anew meets LISTEN, where it is not set. -/
theorem PushEffect.keeps_lastSeen {s t : State} (h : PushEffect s t) (hs : s.AttemptOk)
    (hseen : s.lastSeen = true) : t.lastSeen = true ∧ t.expCnt = s.expCnt := by
  cases h with
  | ignored | foreign | overflow => exact ⟨hseen, rfl⟩
  | queued hl => simp [hs.listening hl] at hseen

/-- Settles O40: ARM and reset clear the two; nothing else reaches them but a PUSH in LISTEN, which the invariant
excludes. -/
theorem lastSeenStaysUntilArmOrReset : Obligations.LastSeenStaysUntilArmOrReset := by
  intro s t a hinv h hseen
  have keeps (hsame : s.sameAttempt t) : t.lastSeen = true ∧ t.expCnt = s.expCnt := by
    obtain ⟨_, hlast, hexp, _⟩ := hsame
    exact ⟨hlast.trans hseen, hexp⟩
  rcases perform_next_cases h with ⟨rfl, rfl⟩ | ⟨_, _, _, rfl⟩ | ⟨v, rfl, hc⟩ | ⟨off, v, _, _, _, rfl⟩
  · exact .inr ⟨.inl rfl, by simp [resetBlock_eq]⟩
  · exact .inl (keeps (by simp))
  · rcases runCommand_effect hc with hk | ⟨i, rfl, he⟩
    · exact .inl (keeps hk.attempt)
    · cases he with
      | keeps hk => exact .inl (keeps hk.attempt)
      | arm => exact .inr ⟨.inr rfl, rfl, rfl⟩
      | push hpush => exact .inl (hpush.keeps_lastSeen hinv.attempt hseen)
      | disarm | pop | flush => exact .inl ⟨hseen, rfl⟩
  · obtain ⟨hattempt, _⟩ := writeTarget_keeps s v (target off)
    exact .inl (keeps hattempt)

end Sys2Proof.Machine
end

section
/-! PROOFS. The statements about host actions (20_memory.md R54 to R59, R67; 60_exceptions.md R138): the order of
actions, what completes and what is refused, Reads, and repeated writes. -/

namespace Sys2Proof.Machine

/-! ## The order of actions (R54, R67, R138) -/

/-- Actions come off the list only in the step that performs them, not by what they do. -/
theorem perform_pending {a : HostAction} {s t : State} (h : perform a s = .next t) :
    t.pending = s.pending := by
  have of_own (hown : s.sameOwn t) : t.pending = s.pending := by
    obtain ⟨_, hpending, _⟩ := hown
    exact hpending
  rcases perform_next_cases h with ⟨_, rfl⟩ | ⟨_, _, _, rfl⟩ | ⟨v, _, hc⟩ | ⟨off, v, _, _, _, rfl⟩
  · exact resetBlock_pending s
  · rfl
  · exact of_own (runCommand_keepsHostRegisters hc).own
  · obtain ⟨_, _, _, hown⟩ := writeTarget_keeps s v (target off)
    exact of_own hown

/-- Settles O43: a step performs the head of the list, and no action reaches the rest. -/
theorem stepTakesActionsInOrder : Obligations.StepTakesActionsInOrder := by
  refine ⟨fun s hp => ?_, fun s a rest hp => ⟨step_performs hp, fun t ht => ?_⟩⟩
  · rw [step, performNext, hp]
  · rw [step_performs hp] at ht
    exact perform_pending ht

/-- Settles O3: a Write of CMD is `runCommand`, by what the word decodes to. -/
theorem stepRunsDecodedCommand : Obligations.StepRunsDecodedCommand := by
  intro s v rest hp
  rw [step_performs hp, perform_write_cmd]
  exact ⟨fun i => runCommand_ok _, fun c => runCommand_error _⟩

/-! ## What completes and what is refused (R55) -/

theorem perform_read {off : Nat} (ha : off % 4 = 0) (s : State) :
    perform (.read allLanes off) s =
      .next (s.setResponses (s.responses ++ [readTarget s (target off)])) :=
  transaction_defined off _ ha

/-- An aligned 32-bit Write is a command or a store. -/
theorem perform_write_completes {off : Nat} (ha : off % 4 = 0) (s : State) (v : Word) :
    ∃ t, perform (.write allLanes off v) s = .next t := by
  by_cases hc : target off = .reg .cmd
  · rw [offset_of_target hc]
    exact runCommand_completes v s
  · exact ⟨_, perform_write_store ha s v hc⟩

/-- Settles O44: a reset, a Read and a Write each complete. -/
theorem definedActionsComplete : Obligations.DefinedActionsComplete := by
  intro s a ha
  cases a with simp only [HostAction.defined, Bool.and_eq_true, decide_eq_true_eq] at ha
  | reset => exact ⟨_, rfl⟩
  | read lanes off =>
    obtain ⟨ha, rfl⟩ := ha
    exact ⟨_, perform_read ha s⟩
  | write lanes off v =>
    obtain ⟨ha, rfl⟩ := ha
    exact perform_write_completes ha s v

section
variable {lanes : BitVec 4} {off : Nat} (o : Host.Outcome State Fault Refusal)

theorem transaction_misaligned (h : off % 4 ≠ 0) :
    transaction lanes off o = .refused (.misalignedAccess off) := if_pos h

theorem transaction_partial (ha : off % 4 = 0) (h : lanes ≠ allLanes) :
    transaction lanes off o = .refused (.partialAccess lanes) :=
  (if_neg (not_not.mpr ha)).trans (if_pos h)

end

/-- Settles O45: the two tests of a transaction's shape, whatever its effect would be. -/
theorem undefinedAccessesAreRefused : Obligations.UndefinedAccessesAreRefused :=
  fun _ _ _ _ => ⟨fun h => ⟨transaction_misaligned _ h, transaction_misaligned _ h⟩,
    fun ha h => ⟨transaction_partial _ ha h, transaction_partial _ ha h⟩⟩

/-- Settles O46: beyond the map nothing is listed, and an unlisted offset reads 0 and stores nothing. -/
theorem offsetsBeyondMapReadZero : Obligations.OffsetsBeyondMapReadZero := by
  intro s off v ha hoff
  have ht : target off = .unmapped := target_beyond hoff
  refine ⟨?_, ?_⟩
  · rw [perform_read ha, ht]; rfl
  · rw [perform_write_store ha s v (by simp [ht]), ht]; rfl

/-! ## Reads (R56, R59) -/

/-- What the host has read so far shows nowhere in the map. -/
theorem readTarget_setResponses (s : State) (r : List Word) (T : Target) :
    readTarget (s.setResponses r) T = readTarget s T := by
  cases T with
  | reg r => cases r <;> rfl
  | byte b i => cases b <;> rfl
  | unmapped => rfl

/-- Settles O47: a Read appends to the responses, which no register shows. -/
theorem readHasNoSideEffect : Obligations.ReadHasNoSideEffect := by
  intro s off ha
  refine ⟨_, perform_read ha s, ?_⟩
  simp [readTarget_setResponses]

/-! ## The plain registers (10_state.md R24, R27 to R34) -/

/-- The low bits of a word as a narrower register takes them. -/
theorem ofNat_bits (v : Word) (k : Nat) : BitVec.ofNat (k + 1) (bits v k 0) = v.setWidth (k + 1) := by
  apply BitVec.eq_of_toNat_eq
  simp [bits]

/-- The registers whose writes are ignored, but for CMD and STATUS (R24). -/
def readOnlyRegs : List Reg := [.result, .errCmd, .txLen, .reasm, .diag, .qstat, .qmeta, .param]

theorem perform_write_readOnly (s : State) (v : Word) :
    ∀ r ∈ readOnlyRegs, perform (.write allLanes r.offset v) s = .next s := by
  intro r hr
  have hcmd : ∀ r ∈ readOnlyRegs, r ≠ .cmd := by decide
  have hstore : ∀ r ∈ readOnlyRegs, writeReg s v r = s := by simp [readOnlyRegs, writeReg]
  rw [perform_write_reg (hcmd r hr), hstore r hr]

/-- Settles O52: each register by its own read and write. -/
theorem plainRegisters : Obligations.PlainRegisters := by
  intro s v
  refine ⟨readTarget_offset s .cmd, readTarget_offset s .result, readTarget_offset s .errCmd,
    readTarget_offset s .invAddr, readTarget_offset s .stnAddr, ?_, ?_, ?_, readTarget_offset s .rxMeta,
    perform_write_reg (r := .invAddr) (by decide) s v, perform_write_reg (r := .stnAddr) (by decide) s v,
    ?_, ?_, perform_write_reg (r := .rxMeta) (by decide) s v, ?_⟩
  · exact BitVec.toNat_setWidth_of_le (b := s.crc16Acc) (by decide)
  · exact BitVec.toNat_setWidth_of_le (b := s.txLen) (by decide)
  · exact BitVec.toNat_setWidth_of_le (b := s.rxLen) (by decide)
  · rw [ofNat_bits]
    exact perform_write_reg (r := .crc16Acc) (by decide) s v
  · rw [ofNat_bits]
    exact perform_write_reg (r := .rxLen) (by decide) s v
  · change ∀ off ∈ readOnlyRegs.map Reg.offset, _
    exact List.forall_mem_map.mpr (perform_write_readOnly s v)

/-! ## Repeated writes (R59) -/

theorem writeByte_writeByte (b : Buffer) (i : Nat) (v : Byte) :
    writeByte (writeByte b i v) i v = writeByte b i v := by
  apply buffer_ext
  intro j _
  rw [readByte_writeByte, readByte_writeByte]
  split <;> rfl

/-- W1C bits cleared once are clear (10_state.md R26). -/
theorem clearStatus_clearStatus (s : State) (v : Word) :
    (s.clearStatus v).clearStatus v = s.clearStatus v := by
  by_cases h0 : bits v 0 0 = 1
  · simp [State.clearStatus, State.setError, State.setSticky, h0]
  · simp [State.clearStatus, State.setSticky, h0]

theorem writeTarget_writeTarget (s : State) (v : Word) (T : Target) :
    writeTarget (writeTarget s v T) v T = writeTarget s v T := by
  cases T with
  | reg r =>
    cases r with
    | status => exact clearStatus_clearStatus s v
    | _ => rfl
  | byte b i =>
    cases b with
    | tx => exact congrArg (s.setTx · s.txLen) (writeByte_writeByte ..)
    | rx => exact congrArg (s.setStaging · s.rxLen s.rxMeta) (writeByte_writeByte ..)
    | qh => rfl
  | unmapped => rfl

/-- Settles O54: away from CMD a completed write is a store, and a store repeated stores the same. -/
theorem writesAreIdempotent : Obligations.WritesAreIdempotent := by
  intro s t off v hoff h
  have hc : target off ≠ .reg .cmd := fun hT => hoff (offset_of_target hT)
  obtain ⟨ha, _, hnext⟩ := transaction_next h
  rw [busWrite_store v s hc] at hnext
  cases hnext
  rw [perform_write_store ha _ v hc, writeTarget_writeTarget]

end Sys2Proof.Machine
end

section
/-! PROOFS. The statements about reset in the model's own form (10_state.md R52; logs 3, 4 and 10). -/

namespace Sys2Proof.Machine

theorem readByte_ofFn (f : Fin Config.maxLen → Byte) {i : Nat} (h : i < Config.maxLen) :
    readByte (Vector.ofFn f) i = f ⟨i, h⟩ := by
  simp [readByte_eq _ h]

/-- Settles O2: `afterReset` draws every byte of both buffers under the new number. -/
theorem resetDrawsBuffersAnew : Obligations.ResetDrawsBuffersAnew :=
  fun s => ⟨_, rfl, resetBlock_resets s, fun _ hi => ⟨readByte_ofFn _ hi, readByte_ofFn _ hi⟩,
    resetBlock_cfg s, resetBlock_pending s, resetBlock_responses s⟩

/-- Settles O59: this hardware's QUEUE_DEPTH is in R8's range. -/
theorem resetMeetsInvariant : Obligations.ResetMeetsInvariant := .afterReset (by decide) 0 [] []

end Sys2Proof.Machine
end

section
/-! PROOFS. The statements about the assembler's pseudo-instructions (30_encoding.md R90): what their host actions do
one after another. -/

namespace Sys2Proof.Machine

/-! ## STAGE -/

theorem byteAt_setWidth (b : Byte) : byteAt (b.setWidth 32) 0 = b := by
  apply BitVec.eq_of_toNat_eq
  simp [byteAt]
  omega

/-- WRS into RXBUF is a string written byte by byte, within the window. -/
theorem performAll_asmWrs_rx (bytes : List Byte) {i : Nat} (h : i + bytes.length ≤ 32) (s : State) :
    performAll (asmWrs true i bytes) s =
      .next (s.setStaging (writeBytes s.rxBuf i bytes) s.rxLen s.rxMeta) := by
  induction bytes generalizing i s with
  | nil => rfl
  | cons b bs ih =>
    rw [List.length_cons] at h
    have hfirst : perform (asmWrb true i (b.setWidth 32)) s =
        .next (s.setStaging (writeByte s.rxBuf i b) s.rxLen s.rxMeta) := by
      refine (perform_write_window s _ .rx (i := i) (by omega)).trans ?_
      rw [writeTarget, byteAt_setWidth]
    simp only [asmWrs, performAll, hfirst]
    rw [ih (by omega)]
    rfl

/-- STAGE's actions: the bytes, then RX_LEN and RX_META. -/
theorem performAll_stage (bytes : List Byte) (h : bytes.length ≤ 32) (s : State) (n m : Word) :
    performAll (asmWrs true 0 bytes ++ [asmWr .rxLen n, asmWr .rxMeta m]) s =
      .next (s.setStaging (writeBytes s.rxBuf 0 bytes) (n.setWidth 8) m) :=
  calc
    _ = performAll [asmWr .rxLen n, asmWr .rxMeta m] _ :=
      performAll_append (performAll_asmWrs_rx bytes (by omega) s)
    _ = performAll [asmWr .rxMeta m] _ := performAll_write_reg (r := .rxLen) (by decide) ..
    _ = performAll [] _ := performAll_write_reg (r := .rxMeta) (by decide) ..
    _ = _ := rfl

theorem readByte_writeBytes_front (b : Buffer) {bytes : List Byte} (h : bytes.length ≤ 32) {i : Nat}
    (hi : i < bytes.length) : bytes[i]? = some (readByte (writeBytes b 0 bytes) i) := by
  rw [readByte_writeBytes, if_pos ⟨by omega, by omega, hi.trans_le h⟩]
  simp [hi]

theorem readByte_writeBytes_behind (b : Buffer) {bytes : List Byte} {i : Nat} (hi : bytes.length ≤ i) :
    readByte (writeBytes b 0 bytes) i = readByte b i := by
  rw [readByte_writeBytes, if_neg (by omega)]

/-- Settles O58: RXBUF with the bytes in front, RX_LEN and RX_META, in one `setStaging`. -/
theorem stageLoadsFrame : Obligations.StageLoadsFrame := by
  intro s n m bytes hn hlen
  have hfits : bytes.length ≤ 32 := by omega
  refine ⟨_, s.setStaging (writeBytes s.rxBuf 0 bytes) (n.setWidth 8) m, rfl, ?_,
    fun i => readByte_writeBytes_front s.rxBuf hfits,
    fun i => readByte_writeBytes_behind s.rxBuf, Nat.mod_eq_of_lt hn, rfl, ?_⟩
  · rw [List.take_of_length_le hlen.le]
    exact performAll_stage bytes hfits s n m
  · simp

/-! ## CLR and RESTART -/

/-- Settles O57: CLR is one STATUS write with every W1C bit, RESTART a FLUSH and an ARM. -/
theorem clrAndRestart : Obligations.ClrAndRestart := by
  intro s
  refine ⟨⟨_, (s.setError false 0 0).setSticky false false, rfl, ?_, ?_⟩,
    ⟨_, armed (s.setQ []), rfl, ?_, ?_⟩⟩
  · rw [← clearStatus_all s (v := 0x7) (by decide) (by decide) (by decide)]
    exact performAll_write_reg (r := .status) (by decide) s _ []
  · simp [statusWord]
  · exact (performAll_command (i := .flush) _ rfl).trans (performAll_command (i := .arm) _ rfl)
  · simp [armed]

end Sys2Proof.Machine
end
